-- ==== Sys2Proof/Word.lean ====
section
/-! DEFINITION. The word types of the part, and the unit in which times are held.
Multi-byte numbers are placed most significant byte first (R194): that is in Machine/Bytes.lean. -/

namespace Sys2Proof

/-- One byte of a record, a frame, a telegram or a text. -/
abbrev Byte := BitVec 8

/-- A 16-bit number: a stamp, a service id, a revision, a request sequence, a CRC. -/
abbrev U16 := BitVec 16

/-- A 32-bit number: a frame serial, the status sequence, a counter that counts modulo 2^32 (R198). -/
abbrev U32 := BitVec 32

/-- A 40-bit address of shared memory (R183). -/
abbrev Addr := BitVec 40

/-- Times are held in microseconds; this is a number of milliseconds. -/
def ms (n : Nat) : Nat := 1000 * n

end Sys2Proof
end

