-- ==== Sys2Proof/Syntax.lean ====
section
/-! DEFINITION. The commands of the part: one constructor for each row of spec/opcode_table.json, in the
table's order, with the operands that the row's rule reads from outside. -/

namespace Sys2Proof

/-- The frame source selected in CONTROL (R20). -/
inductive FrameSource where
  | internal
  | external
deriving DecidableEq, Repr

/-- The two registers of the root address (R30). -/
inductive RootRegister where
  | rootLo
  | rootHi
deriving DecidableEq, Repr

/-- The registers that have no write behaviour (R30). -/
inductive ReadOnlyRegister where
  | ident
  | frameNow
  | cause
deriving DecidableEq, Repr

/-- Whose slot a read sequence reads: a service's contribution slot (R60), or the alert ring's (R76). -/
inductive SlotKey where
  | service (sid : U16)
  | alert
deriving DecidableEq, Repr

/-- What the bus answers a granted transfer with (R189): DATA, with the bytes for a READ, or ERROR. -/
inductive BusOutcome where
  | data (bytes : List Byte)
  | error
deriving DecidableEq, Repr

/-- The outcome handed to the owner of a transfer (R183). -/
inductive TransferOutcome where
  | data (bytes : List Byte)
  | error
  | timeout
deriving DecidableEq, Repr

/-- Samples 7, 8 and 9 of one bit of the line (R149, R150); true is level 1. -/
structure BitSamples where
  s7 : Bool
  s8 : Bool
  s9 : Bool
deriving DecidableEq, Repr

/-- The samples by which a byte is judged after its start bit (R150): data bits 0 to 7, parity, stop. -/
structure ByteSamples where
  data   : Vector BitSamples 8
  parity : BitSamples
  stop   : BitSamples
deriving DecidableEq, Repr

/-- The commands: the rows of the table of operations and events. A service is named by its id. -/
inductive Instr where
  /-- POWER_ON_RESET (R28). -/
  | powerOnReset
  /-- SOFT_RESET (R29): word is the CONTROL word written, whose other fields are ignored (R20). -/
  | softReset (word : BitVec 32)
  /-- MODE_REQUEST_RUN (R21, R22). -/
  | modeRequestRun
  /-- MODE_REQUEST_HOLD (R21). -/
  | modeRequestHold
  /-- MODE_REQUEST_STOP (R21, R23, R27). -/
  | modeRequestStop
  /-- FRAME_SOURCE_SELECT (R13): the source the CONTROL write carries. -/
  | frameSourceSelect (source : FrameSource)
  /-- FRAME_MARK_ENABLE (R19): the enable the CONTROL write carries. -/
  | frameMarkEnable (on : Bool)
  /-- ROOT_ADDRESS_WRITE (R30). -/
  | rootAddressWrite (reg : RootRegister) (value : BitVec 32)
  /-- CAUSE_MASK_WRITE (R32). -/
  | causeMaskWrite (value : BitVec 32)
  /-- CAUSE_READ (R32). -/
  | causeRead
  /-- REGISTER_WRITE (R30): a write to a register that has no write behaviour. -/
  | registerWrite (reg : ReadOnlyRegister) (value : BitVec 32)
  /-- FRAME_IN_EDGE (R11, R12): t is the edge's time after the previous frame start, in microseconds
  (after entering STARTING when there is none). -/
  | frameInEdge (t : Nat)
  /-- INTERNAL_PERIOD_EXPIRY (R10). -/
  | internalPeriodExpiry
  /-- LOCKED_DEADLINE (R11). -/
  | lockedDeadline
  /-- HOLDOVER_PERIOD_EXPIRY (R12). -/
  | holdoverPeriodExpiry
  /-- TX_READY_CHANGE (R17): the new level, and how many bytes the modulator took since the last command of
  the Transport Port. -/
  | txReadyChange (level : Bool) (sent : Nat)
  /-- LAST_BYTE_SENT (R17, R18). -/
  | lastByteSent
  /-- POLL_OFFSET (R15): the next of the offsets 8, 16, 24 and 32 ms. -/
  | pollOffset
  /-- CUT_OFF (R15). -/
  | cutOff
  /-- LABEL_STEP_TIMER_EXPIRY (R110). -/
  | labelStepTimerExpiry (sid : U16)
  /-- ALERT_STEP_TIMER_EXPIRY (R114). -/
  | alertStepTimerExpiry (sid : U16)
  /-- DWELL_TIMER_EXPIRY (R129). -/
  | dwellTimerExpiry (sid : U16)
  /-- ROOT_READ_DONE (R23). -/
  | rootReadDone (outcome : TransferOutcome)
  /-- ROOT_POLL_DONE (R33). -/
  | rootPollDone (outcome : TransferOutcome)
  /-- PLAN_LOAD_TRANSFER_DONE (R41). -/
  | planLoadTransferDone (outcome : TransferOutcome)
  /-- STATUS_TRANSFER_DONE (R36). -/
  | statusTransferDone (outcome : TransferOutcome)
  /-- SLOT_HEADER_READ_DONE (R62). -/
  | slotHeaderReadDone (key : SlotKey) (outcome : TransferOutcome)
  /-- PAYLOAD_BURST_DONE (R63). -/
  | payloadBurstDone (key : SlotKey) (outcome : TransferOutcome)
  /-- CONFIRM_READ_DONE (R64). -/
  | confirmReadDone (key : SlotKey) (outcome : TransferOutcome)
  /-- LABEL_POLL_DONE (R102). -/
  | labelPollDone (sid : U16) (outcome : TransferOutcome)
  /-- LABEL_FETCH_DONE (R103). -/
  | labelFetchDone (sid : U16) (outcome : TransferOutcome)
  /-- PICTURE_HEADER_READ_DONE (R121). -/
  | pictureHeaderReadDone (sid : U16) (outcome : TransferOutcome)
  /-- PICTURE_ENTRY_READ_DONE (R122). -/
  | pictureEntryReadDone (sid : U16) (outcome : TransferOutcome)
  /-- REFILL_RECORD_DONE (R124). -/
  | refillRecordDone (sid : U16) (outcome : TransferOutcome)
  /-- REFILL_DATA_DONE (R125). -/
  | refillDataDone (sid : U16) (outcome : TransferOutcome)
  /-- ALERT_TEXT_READ_DONE (R164). -/
  | alertTextReadDone (outcome : TransferOutcome)
  /-- STANDBY_TRANSFER_DONE (R181). -/
  | standbyTransferDone (outcome : TransferOutcome)
  /-- LINE_BYTE_COMPLETE (R150, R151). -/
  | lineByteComplete (samples : ByteSamples)
  /-- BREAK_WAIT_END (R151). -/
  | breakWaitEnd
  /-- IDLE_MARKER (R152). -/
  | idleMarker
  /-- PARSER_TAKE_ENTRY (R157). -/
  | parserTakeEntry
  /-- TRANSFER_GRANT (R187). -/
  | transferGrant
  /-- BULK_PROMOTION (R188). -/
  | bulkPromotion
  /-- TRANSFER_RESPONSE (R189): the slot number, grant number and outcome the response carries. -/
  | transferResponse (slot : Fin 8) (grant : BitVec 8) (outcome : BusOutcome)
  /-- STALE_RESPONSE (R189, R190). -/
  | staleResponse (slot : Fin 8) (grant : BitVec 8) (outcome : BusOutcome)
  /-- TRANSFER_TIMEOUT (R190). -/
  | transferTimeout (slot : Fin 8)
  /-- QUIET_TIME_END (R193). -/
  | quietTimeEnd
  /-- LINE_FALLING_EDGE (R149): hunted is how many samples the receiver took in HUNT since its last command
  other than IDLE_MARKER, the last of them at level 1 when there are any; the sample at level 0 comes after them. -/
  | lineFallingEdge (hunted : Nat)
  /-- START_BIT_SAMPLE (R149): samples 7, 8 and 9 of the start bit. -/
  | startBitSample (samples : BitSamples)
deriving DecidableEq, Repr

end Sys2Proof
end

