-- ==== Sys2Proof/Config.lean ====
section
/-! DEFINITION. The sizes the part fixes, and the free values: values the spec states no rule for, which no
proof can see. A free value is drawn with the number of the draw (State.freeDraws), so that two draws are
two values. -/

namespace Sys2Proof.Config

/-- The entries the Receive FIFO holds (R153). -/
def fifoDepth : Nat := 32

/-- The bytes a staging buffer holds (R119). -/
def stagingSize : Nat := 240

/-- The payload bytes of a frame: 600 cells of 32 bytes (R7). -/
def payloadSize : Nat := 19200

/-- The position of a frame's last byte (R17). -/
def lastBytePosition : Nat := 19345

/-- The highest value of a 16-bit saturating counter. -/
def max16 : Nat := 65535

/-- The highest value of a 32-bit saturating counter. -/
def max32 : Nat := 4294967295

/-- FREE VALUE. Byte i of a burst whose response carries fewer bytes than the burst has: the spec says that a
READ delivers its bytes whole (R183) and states no value for a byte that a response leaves out. -/
opaque undeliveredByte : Nat → Nat → BitVec 8

/-- FREE VALUE. The code of "mode fixed for F" (R198, offset 8) in a closing snapshot made when no frame had
been begun: there is no F, and the spec states no code. -/
opaque modeOfNoFrame : Nat → BitVec 8

end Sys2Proof.Config
end

