-- ==== Sys2Proof/Machine/State.lean ====
section
/-! DEFINITION. The state of the part: every block's state as its chapter lists it, the registers, the queue of
waiting commands, and State.reset. Everything is plain data. -/

namespace Sys2Proof.Machine

/-! ### Modes and registers (chapter 2) -/

/-- The device mode (2.1). -/
inductive DevMode where
  | stopped
  | starting
  | running
  | holding
deriving DecidableEq, Repr

/-- The pending mode request (2.1). -/
inductive ModeRequest where
  | none
  | run
  | hold
  | stop
deriving DecidableEq, Repr

/-- The last start result (R31). -/
inductive StartResult where
  | none
  | pending
  | ok
  | rootAddress
  | rootSignature
  | rootFault
  | noPlan
  | planInvalid
  | aborted
deriving DecidableEq, Repr

/-- The last resume reason (2.1). -/
inductive ResumeReason where
  | none
  | request
  | emergency
deriving DecidableEq, Repr

/-- Where the start sequence of R23 stands: not running; in its root read; in its plan load; or ended OK with
the opening start still to come (R24). -/
inductive StartStage where
  | idle
  | rootRead
  | planLoad
  | endedOk
deriving DecidableEq, Repr

/-- The Mode Controller (2.1). -/
structure ModeController where
  mode        : DevMode
  pending     : ModeRequest
  startResult : StartResult
  resume      : ResumeReason
  stage       : StartStage
deriving DecidableEq, Repr

/-- The stored fields of CONTROL and the root address registers (R20, R30). readData is the word on the
register port: what the last register read returned. -/
structure Registers where
  source     : FrameSource
  markEnable : Bool
  rootLo     : BitVec 32
  rootHi     : BitVec 8
  readData   : BitVec 32
deriving DecidableEq, Repr

/-! ### The Frame Timer (chapter 1) -/

/-- The state of the Frame Timer (1.2). -/
inductive TimerState where
  | internal
  | locked
  | holdover
deriving DecidableEq, Repr

/-- The Frame Timer (1.2, R9): timingFrom is the time of entering STARTING while it is timing, and none while it
is stopped; period is in milliseconds; edgePhase is in microseconds. pollsMade and cutOffMade are the place in
the timeline of the current assembly period (R15). frameMarks counts the pulses given on FRAME_MARK (R19). -/
structure FrameTimer where
  source     : FrameSource
  state      : TimerState
  timingFrom : Option Nat
  lastStart  : Option Nat
  period     : Nat
  edgePhase  : Option Nat
  nextSerial : U32
  spurious   : U32
  holdovers  : U32
  pollsMade  : Nat
  cutOffMade : Bool
  frameMarks : Nat
deriving DecidableEq, Repr

/-! ### The Control Poller (2.3) -/

/-- The values of the root control area as CP accepts them, in range by R197. -/
structure RootValues where
  planSeq      : U16
  planAddr     : Addr
  cellSeq      : U16
  cellType     : Byte
  cellId       : Byte
  cellLevel    : Byte
  cellMask     : Byte
  cellDuration : Nat
  cellTextAddr : Addr
  cellTextLen  : Nat
  standbySeq   : U16
  standbyRegion : Byte
  standbyAddr  : Addr
  standbyLen   : Nat
  anchorSerial : U32
  anchorMs     : Nat
  rateCode     : Byte
  areaCodes    : List U16
  loopOnly     : Bool
  ringDepth    : Nat
  slotSize     : Nat
  ringBase     : Addr
  stepInterval : Nat
  alertQuantum : Nat
  alertPrefix  : List Byte
  statusAddr   : Addr
deriving DecidableEq, Repr

/-- The three request sequences last seen (2.3). -/
structure SeenSequences where
  plan    : U16
  cell    : U16
  standby : U16
deriving DecidableEq, Repr

/-- The state of CP's root poll (2.3). -/
inductive PollState where
  | none
  | waiting
  | inFlight
deriving DecidableEq, Repr

/-- The Control Poller (2.3). -/
structure ControlPoller where
  accepted : Option RootValues
  seen     : Option SeenSequences
  poll     : PollState
  ignores  : U32
deriving DecidableEq, Repr

/-! ### The Plan Manager (chapter 3) -/

/-- One entry of a plan (R38). -/
structure PlanEntry where
  subId         : Byte
  cells         : Nat
  start         : Nat
  sid           : U16
  mask          : Byte
  restart       : Bool
  ringBase      : Addr
  ringDepth     : Nat
  labelQuantum  : Nat
  pictureQuantum : Nat
  labelAddr     : Addr
  pictureAddr   : Addr
  name          : List Byte
deriving DecidableEq, Repr

/-- A plan as a READY bank holds it (R40). -/
structure Plan where
  number  : Byte
  entries : List PlanEntry
  addr    : Addr
deriving DecidableEq, Repr

/-- A bank of the Plan Table (R40). -/
inductive Bank where
  | empty
  | filling
  | ready (plan : Plan)
deriving DecidableEq, Repr

/-- The plan state (R40). -/
inductive PlanState where
  | idle
  | loading
  | countdown
  | cancelling
deriving DecidableEq, Repr

/-- The last plan result (R40). -/
inductive PlanResult where
  | none
  | accepted
  | switched
  | cancelled
  | superseded
  | fault
  | check
  | count
  | range
  | overlap
  | duplicate
  | ring
deriving DecidableEq, Repr

/-- The three fields PM reads from a plan header (R37). -/
structure PlanHeader where
  number : Byte
  count  : Nat
  check  : U16
deriving DecidableEq, Repr

/-- A plan load in progress (R41): its target bank, its address, the header once it is read, and the bytes of
the entries read so far. -/
structure PlanLoad where
  toActive : Bool
  addr     : Addr
  header   : Option PlanHeader
  bytes    : List Byte
deriving DecidableEq, Repr

/-- The Plan Manager (R40). countdown, nextNumber and cancelled are the values fixed for the most recently
fixed frame (R49). -/
structure PlanManager where
  active       : Bank
  staged       : Bank
  state        : PlanState
  countdown    : Nat
  nextNumber   : Byte
  cancelled    : Bool
  switchSerial : U32
  remembered   : Option Addr
  held         : Option Addr
  lastResult   : PlanResult
  supersedes   : U32
  load         : Option PlanLoad
deriving DecidableEq, Repr

/-! ### The Contribution Reader (chapter 4) -/

/-- The rung of the substitution ladder (R58). -/
inductive Substitution where
  | normal
  | repeating
  | silent
  | dormant
deriving DecidableEq, Repr

/-- The reason of a late frame (R58). -/
inductive LateReason where
  | none
  | absent
  | torn
  | overlong
  | fault
  | slow
deriving DecidableEq, Repr

/-- A contribution record (R58); the repeat buffer is valid when it is present. -/
structure Contribution where
  substitution : Substitution
  lateRun      : Nat
  lastLate     : LateReason
  lateTotal    : Nat
  taken        : U16
  repeatBuffer : Option (List Byte)
deriving DecidableEq, Repr

/-- The phase of a slot-read record (R60). -/
inductive SlotPhase where
  | idle
  | header
  | fetch
  | confirm
  | good
  | overlong
deriving DecidableEq, Repr

/-- The latest outcome of a slot-read record (R60). -/
inductive SlotOutcome where
  | none
  | absent
  | torn
  | fault
deriving DecidableEq, Repr

/-- The fields of a slot header (R59). -/
structure SlotHeader where
  stamp   : U16
  len     : Nat
  silent  : Bool
  noAnnex : Bool
deriving DecidableEq, Repr

/-- A slot-read record (R60); the fetch buffer holds the bytes received. -/
structure SlotRead where
  phase   : SlotPhase
  outcome : SlotOutcome
  held    : Option SlotHeader
  buffer  : List Byte
deriving DecidableEq, Repr

/-- The alert slot-read record (R76), with the alert ring's address, depth and slot payload size as last
accepted at the start of its assembly period. -/
structure AlertSlot where
  slot : SlotRead
  base : Addr
  depth : Nat
  size : Nat
deriving DecidableEq, Repr

/-- The alert audio selected for a frame (R77, R177): absent, or its bytes. -/
inductive AlertAudio where
  | absent
  | present (bytes : List Byte)
deriving DecidableEq, Repr

/-! ### The Annex Scheduler (chapter 5) -/

/-- The credit mode of an annex record (R79). -/
inductive CreditMode where
  | own
  | alert
deriving DecidableEq, Repr

/-- An annex record (R79). -/
structure Annex where
  labelCredit    : Nat
  labelQuantum   : Nat
  pictureCredit  : Nat
  pictureQuantum : Nat
  mode           : CreditMode
  sequence       : Byte
deriving DecidableEq, Repr

/-! ### The Label Engine (chapter 6) -/

/-- The parameters and text of a label, normalised by R99: text is the head, the body and the tail. -/
structure LabelParams where
  width    : Nat
  head     : Nat
  body     : Nat
  tail     : Nat
  gap      : Nat
  stepSize : Nat
  interval : Nat
  passes   : Nat
  enabled  : Bool
  reversed : Bool
  text     : List Byte
deriving DecidableEq, Repr

/-- The moving part of a label (R100), held once for the own label and once for the alert label: the scroll
position, the instance and its serial, toggle, segment index and pass count, the step timer and step-pending. -/
structure LabelRun where
  position    : Nat
  chars       : Option (List Byte)
  serial      : U16
  toggle      : Bool
  segment     : Nat
  passCount   : Nat
  timer       : Nat
  stepPending : Bool
deriving DecidableEq, Repr

/-- The alert label (R113): the sources recorded, the parameters they give, and its moving part. -/
structure AlertLabel where
  headSource  : List Byte
  bodySource  : List Byte
  widthSource : Nat
  params      : LabelParams
  run         : LabelRun
deriving DecidableEq, Repr

/-- The record read of a label (R100). -/
inductive RecordRead where
  | idle
  | polling
  | fetching
deriving DecidableEq, Repr

/-- A good copy of a label record, normalised, with its revision (R103). -/
structure LabelCopy where
  params   : LabelParams
  revision : U16
deriving DecidableEq, Repr

/-- A label state (R100); the label buffer is valid when it is present. -/
structure LabelState where
  buffer   : Option LabelParams
  revision : U16
  received : Option LabelCopy
  read     : RecordRead
  run      : LabelRun
  slips    : Nat
  alert    : Option AlertLabel
deriving DecidableEq, Repr

/-! ### The Picture Engine (chapter 7) -/

/-- The carousel state (R119). -/
inductive Carousel where
  | idle
  | sending
  | dwelling
deriving DecidableEq, Repr

/-- The selection read (R119). -/
inductive SelectionRead where
  | idle
  | header
  | entry
deriving DecidableEq, Repr

/-- The refill (R119). -/
inductive Refill where
  | idle
  | record
  | data
deriving DecidableEq, Repr

/-- The object values taken at selection (R119). -/
structure PictureObject where
  addr   : Addr
  len    : Nat
  passes : Nat
  dwell  : Nat
deriving DecidableEq, Repr

/-- A pass over an object (R119): toggle, offset, segment number and running object CRC. -/
structure PassRun where
  toggle  : Bool
  offset  : Nat
  segment : Nat
  crc     : U16
deriving DecidableEq, Repr

/-- A PICTURE_ABORT waiting to be sent (R126): the tag, as entry index and toggle, and the segment count. -/
structure PendingAbort where
  entry    : Nat
  toggle   : Bool
  segments : Byte
deriving DecidableEq, Repr

/-- The alert picture (R133): the region revision recorded, the object, and its pass. -/
structure AlertPicture where
  revision : U16
  object   : List Byte
  pass     : PassRun
deriving DecidableEq, Repr

/-- A picture state (R119). count is the list's entry count as the selection in progress took it (R121). -/
structure PictureState where
  carousel     : Carousel
  selection    : SelectionRead
  listSeen     : Option U16
  count        : Nat
  nextIndex    : Nat
  skips        : Nat
  entry        : Nat
  object       : PictureObject
  passRevision : U16
  passCount    : Nat
  pass         : PassRun
  staging      : List Byte
  refill       : Refill
  suspended    : Bool
  dwellTimer   : Nat
  abort        : Option PendingAbort
  alert        : Option AlertPicture
deriving DecidableEq, Repr

/-- The state the blocks keep for one service of the ACTIVE plan, keyed by service id: CR's contribution record
and slot-read record, and the records of AS, LE and PE. -/
structure Service where
  sid          : U16
  contribution : Contribution
  slot         : Option SlotRead
  annex        : Annex
  label        : LabelState
  picture      : PictureState
deriving DecidableEq, Repr

/-! ### The Directory Generator, the Frame Composer and the Transport Port (chapters 8 and 1) -/

/-- The source of an alert (R167). -/
inductive AlertSource where
  | telegram
  | cell
deriving DecidableEq, Repr

/-- DG's run record (R141). -/
structure RunRecord where
  source  : AlertSource
  alertId : Byte
  serial  : U32
deriving DecidableEq, Repr

/-- The Directory Generator (R141). -/
structure DirectoryGenerator where
  position      : Nat
  nextPart      : Nat
  lastCountdown : Nat
  run           : Option RunRecord
deriving DecidableEq, Repr

/-- A carrier frame in its four parts (R1), with its serial and the mode fixed for it. -/
structure Frame where
  serial    : U32
  mode      : DevMode
  header    : List Byte
  directory : List Byte
  payload   : List Byte
  trailer   : List Byte
deriving DecidableEq, Repr

/-- The state of the Transport Port (1.4). -/
inductive PortState where
  | idle
  | emitting
  | sent
deriving DecidableEq, Repr

/-- The Transport Port (1.4). ready is the level of TX_READY; frame is the frame taken at the last frame start;
lastSerial and lastMode are the serial and the mode of the frame most recently begun (R31, R36). -/
structure TransportPort where
  state      : PortState
  ready      : Bool
  frame      : Option Frame
  serial     : U32
  position   : Nat
  truncated  : U32
  lastSerial : U32
  lastMode   : Option DevMode
deriving DecidableEq, Repr

/-! ### The Alert Line Receiver and the Telegram Parser (chapter 9) -/

/-- The line state (R147). -/
inductive LineState where
  | disabled
  | hunt
  | start
  | receiving
  | breakWait
deriving DecidableEq, Repr

/-- The line rates (R147). -/
inductive LineRate where
  | baud2400
  | baud9600
  | baud19200
  | baud38400
deriving DecidableEq, Repr

/-- The bit being sampled (R147). -/
inductive LineBit where
  | start
  | data (k : Fin 8)
  | parity
  | stop
deriving DecidableEq, Repr

/-- The byte under assembly (R147). -/
structure ByteAssembly where
  value     : Byte
  parityBit : Bool
  noise     : Bool
  parity    : Bool
deriving DecidableEq, Repr

/-- An entry of the Receive FIFO (R153): a byte with its value, or an IDLE marker (value none), with its flags. -/
structure FifoEntry where
  value   : Option Byte
  noise   : Bool
  parity  : Bool
  framing : Bool
  isBreak : Bool
  overrunBefore : Bool
deriving DecidableEq, Repr

/-- The Alert Line Receiver with its Receive FIFO, oldest entry first (R147, R153). lastSample is the level of the
last sample that a command other than IDLE_MARKER brought, by which a falling edge is judged (R149, R151); highRun counts the
samples of BREAK_WAIT (R151). -/
structure LineReceiver where
  state      : LineState
  rate       : LineRate
  samplePos  : Nat
  bit        : LineBit
  byte       : ByteAssembly
  idleCount  : Nat
  armed      : Bool
  overrun    : Bool
  lost       : Nat
  lastSample : Bool
  highRun    : Nat
  fifo       : List FifoEntry
deriving DecidableEq, Repr

/-- The parser state (R156). -/
inductive ParserState where
  | hunt
  | marker
  | length
  | body
  | check
  | hold
deriving DecidableEq, Repr

/-- The reject reasons (R156), in the order of the status block (R198). -/
inductive RejectReason where
  | overrun
  | timeout
  | framing
  | parity
  | noise
  | restart
  | format
  | check
  | level
  | area
deriving DecidableEq, Repr

/-- A checked telegram in the hold buffer (R161). -/
structure Telegram where
  isClear  : Bool
  alertId  : Byte
  level    : Byte
  mask     : Byte
  area     : U16
  duration : Nat
  text     : List Byte
deriving DecidableEq, Repr

/-- The Telegram Parser (R156): len is N, body and crc the bytes of the telegram under assembly. -/
structure TelegramParser where
  state     : ParserState
  len       : Nat
  body      : List Byte
  crc       : List Byte
  hold      : Option Telegram
  rejects   : Vector Nat 10
  lastTest  : Byte
  testCount : Nat
deriving DecidableEq, Repr

/-! ### The Alert Controller and the Standby Store (chapter 10) -/

/-- The alert phase of a frame (R4). -/
inductive AlertPhase where
  | none
  | announcing
  | active
  | releasing
deriving DecidableEq, Repr

/-- The state of a queue entry (R167). -/
inductive EntryState where
  | waiting
  | announcing
  | active
  | releasing
deriving DecidableEq, Repr

/-- An entry of the Alert Queue (R167). order is the place of its insertion among all insertions, by which
entries of equal level are ordered. -/
structure AlertEntry where
  source    : AlertSource
  alertId   : Byte
  level     : Nat
  mask      : Byte
  remaining : Nat
  text      : List Byte
  state     : EntryState
  announce  : Nat
  endMark   : Bool
  order     : Nat
deriving DecidableEq, Repr

/-- The host request in progress (R163): FETCHING its text while complete is false. -/
structure CellRequest where
  complete : Bool
  isClear  : Bool
  alertId  : Byte
  level    : Byte
  mask     : Byte
  duration : Nat
  text     : List Byte
deriving DecidableEq, Repr

/-- The Alert Controller (R162). level3Inserted is what R165 records for a cut-off; nextOrder numbers the next
insertion. -/
structure AlertController where
  queue          : List AlertEntry
  phase          : AlertPhase
  copy           : Option AlertEntry
  targets        : List U16
  cell           : Option CellRequest
  drops          : Nat
  level3Inserted : Bool
  nextOrder      : Nat
deriving DecidableEq, Repr

/-- The regions of the Standby Store (10.5). -/
inductive RegionId where
  | silence
  | loop
  | picture
  | text
deriving DecidableEq, Repr

/-- The state of a region (R178). -/
inductive RegionState where
  | invalid
  | loading
  | valid
deriving DecidableEq, Repr

/-- A region of the Standby Store (R178). -/
structure Region where
  state    : RegionState
  revision : U16
  len      : Nat
  bytes    : List Byte
deriving DecidableEq, Repr

/-- A standby request, and the load it becomes (R178, R180). -/
structure StandbyRequest where
  region   : RegionId
  addr     : Addr
  len      : Nat
  sequence : U16
deriving DecidableEq, Repr

/-- The load in progress (R178): its request and how many bytes are copied. -/
structure StandbyLoad where
  request : StandbyRequest
  copied  : Nat
deriving DecidableEq, Repr

/-- The last load result (R178). -/
inductive LoadResult where
  | none
  | loaded
  | tooLong
  | badRegion
  | format
  | fault
  | superseded
deriving DecidableEq, Repr

/-- The Standby Store (R178). -/
structure StandbyStore where
  silence    : Region
  loop       : Region
  picture    : Region
  text       : Region
  load       : Option StandbyLoad
  pending    : Option StandbyRequest
  lastResult : LoadResult
  frameCount : Nat
  loopIndex  : Nat
  supersedes : U32
deriving DecidableEq, Repr

/-! ### The Memory Port (chapter 11) -/

/-- The classes of a transfer (R184). -/
inductive Class where
  | urgent
  | timed
  | control
  | bulk
deriving DecidableEq, Repr

/-- The blocks that make requests (R183). -/
inductive Owner where
  | cp
  | pm
  | cr
  | ac
  | le
  | pe
  | ss
  | sw
deriving DecidableEq, Repr

/-- What a request reads or writes for its owner: by it an outcome finds the rule that takes it. -/
inductive Purpose where
  | rootRead
  | rootPoll
  | planLoad
  | status
  | slotHeader (key : SlotKey)
  | slotPayload (key : SlotKey)
  | slotConfirm (key : SlotKey)
  | labelPoll (sid : U16)
  | labelFetch (sid : U16)
  | listHeader (sid : U16)
  | listEntry (sid : U16)
  | refillRecord (sid : U16)
  | refillData (sid : U16)
  | alertText
  | standby
deriving DecidableEq, Repr

/-- A request record (R183): data is present for a WRITE and absent for a READ; the owner is that of the purpose. -/
structure Request where
  purpose : Purpose
  cls     : Class
  data    : Option (List Byte)
  addr    : Addr
  len     : Nat
  entry   : Nat
deriving DecidableEq, Repr

/-- A request in flight in a BUSY slot (R186), with its grant number, grant time and withdrawn flag. -/
structure InFlight where
  request   : Request
  grant     : BitVec 8
  grantTime : Nat
  withdrawn : Bool
deriving DecidableEq, Repr

/-- The Memory Port (R185, R186, R191, R193). A slot is FREE when it is none; the waiting list is oldest first.
quietEnd is the end of the quiet time while it runs. completing is set only inside a command: while an owner
takes an outcome, its requests enter the list before the freed slot is granted (R189). -/
structure MemoryPort where
  slots        : Vector (Option InFlight) 8
  waiting      : List Request
  grantCounter : BitVec 8
  faults       : Nat
  timeouts     : Nat
  quietEnd     : Option Nat
  completing   : Bool
deriving DecidableEq, Repr

/-! ### The Status Writer (2.4) -/

/-- The write-back state (2.4). -/
inductive WriteState where
  | idle
  | waiting
  | writing
deriving DecidableEq, Repr

/-- A snapshot with the address its write-back goes to: the 892 bytes of the body (R198). -/
structure Snapshot where
  addr : Addr
  body : List Byte
deriving DecidableEq, Repr

/-- The Status Writer (2.4) with the cause bits (R32). current is the snapshot of the write-back in progress and
part the transfer of it that is out (R36: 0 the leading copy, 1 to 4 the body, 5 the trailing copy). assembled is
the snapshot of the completed frame, waiting for that frame's start (R35). -/
structure StatusWriter where
  cause     : BitVec 10
  mask      : BitVec 10
  sequence  : U32
  state     : WriteState
  current   : Option Snapshot
  part      : Nat
  held      : Option Snapshot
  assembled : Option (List Byte)
  coalesced : U32
deriving DecidableEq, Repr

/-! ### The state -/

/-- The state of the part. pending is the queue of waiting commands, first in, first out. now is the time reached, in
microseconds; freeDraws numbers the free values drawn so far. -/
structure State where
  pending    : List Instr
  now        : Nat
  freeDraws  : Nat
  modes      : ModeController
  regs       : Registers
  ft         : FrameTimer
  cp         : ControlPoller
  pm         : PlanManager
  services   : List Service
  alertSlot  : Option AlertSlot
  alertAudio : AlertAudio
  dg         : DirectoryGenerator
  completed  : Option Frame
  tp         : TransportPort
  alr        : LineReceiver
  tgp        : TelegramParser
  ac         : AlertController
  ss         : StandbyStore
  mp         : MemoryPort
  sw         : StatusWriter
deriving DecidableEq, Repr

/-- The reasons a step can stop with a fault: there are none, for the spec describes no event that stops the
machine. A bus error or a timeout is counted and raises FAULT in CAUSE (R191), and the part goes on. -/
inductive Fault where
deriving DecidableEq, Repr

/-- The reasons a command can be refused. -/
inductive Refusal where
  /-- Raised by exec's arm of a command that has no meaning yet, with the table's mnemonic. Safe: the machine
  stops. No arm of this model raises it. -/
  | notModelled (mnemonic : String)
deriving DecidableEq, Repr

/-! ### The reset state -/

/-- A region after power-on reset (R178). -/
def Region.reset : Region := { state := .invalid, revision := 0, len := 0, bytes := [] }

/-- The Mode Controller after either reset (2.1). -/
def ModeController.reset : ModeController :=
  { mode := .stopped, pending := .none, startResult := .none, resume := .none, stage := .idle }

/-- CONTROL and the root address registers after power-on reset (R20, R28). -/
def Registers.reset : Registers :=
  { source := .internal, markEnable := false, rootLo := 0, rootHi := 0, readData := 0 }

/-- The Frame Timer after either reset, with CONTROL selecting INTERNAL (R9, R20). -/
def FrameTimer.reset : FrameTimer :=
  { source := .internal, state := .internal, timingFrom := none, lastStart := none, period := 48
    edgePhase := none, nextSerial := 0, spurious := 0, holdovers := 0, pollsMade := 0
    cutOffMade := false, frameMarks := 0 }

/-- The Control Poller after either reset (2.3). -/
def ControlPoller.reset : ControlPoller :=
  { accepted := none, seen := none, poll := .none, ignores := 0 }

/-- The Plan Manager after either reset (R40). -/
def PlanManager.reset : PlanManager :=
  { active := .empty, staged := .empty, state := .idle, countdown := 0, nextNumber := 0
    cancelled := false, switchSerial := 0, remembered := none, held := none, lastResult := .none
    supersedes := 0, load := none }

/-- The Directory Generator after either reset (R141). -/
def DirectoryGenerator.reset : DirectoryGenerator :=
  { position := 0, nextPart := 0, lastCountdown := 0, run := none }

/-- The Transport Port after either reset (1.4). -/
def TransportPort.reset : TransportPort :=
  { state := .idle, ready := false, frame := none, serial := 0, position := 0, truncated := 0
    lastSerial := 0, lastMode := none }

/-- A byte under assembly, cleared (R149). -/
def ByteAssembly.cleared : ByteAssembly :=
  { value := 0, parityBit := false, noise := false, parity := false }

/-- The Alert Line Receiver after either reset (R147). -/
def LineReceiver.reset : LineReceiver :=
  { state := .disabled, rate := .baud9600, samplePos := 0, bit := .start, byte := .cleared
    idleCount := 0, armed := false, overrun := false, lost := 0, lastSample := false, highRun := 0
    fifo := [] }

/-- The Telegram Parser after either reset (R156). -/
def TelegramParser.reset : TelegramParser :=
  { state := .hunt, len := 0, body := [], crc := [], hold := none
    rejects := Vector.replicate 10 0, lastTest := 0, testCount := 0 }

/-- The Alert Controller after either reset (R162). -/
def AlertController.reset : AlertController :=
  { queue := [], phase := .none, copy := none, targets := [], cell := none, drops := 0
    level3Inserted := false, nextOrder := 0 }

/-- The Standby Store after power-on reset (R178). -/
def StandbyStore.reset : StandbyStore :=
  { silence := .reset, loop := .reset, picture := .reset, text := .reset, load := none
    pending := none, lastResult := .none, frameCount := 0, loopIndex := 0, supersedes := 0 }

/-- The Memory Port right after a reset taken at the given time: a quiet time of 4 ms begins (R193). -/
def MemoryPort.resetAt (now : Nat) : MemoryPort :=
  { slots := Vector.replicate 8 none, waiting := [], grantCounter := 0, faults := 0, timeouts := 0
    quietEnd := some (now + ms 4), completing := false }

/-- The Status Writer after power-on reset (2.4, R28). -/
def StatusWriter.reset : StatusWriter :=
  { cause := 0, mask := 0, sequence := 0, state := .idle, current := none, part := 0, held := none
    assembled := none, coalesced := 0 }

/-- The part right after power-on reset (R28), with no command waiting. -/
def State.reset : State :=
  { pending := [], now := 0, freeDraws := 0, modes := .reset, regs := .reset, ft := .reset
    cp := .reset, pm := .reset, services := [], alertSlot := none, alertAudio := .absent
    dg := .reset, completed := none, tp := .reset, alr := .reset, tgp := .reset, ac := .reset
    ss := .reset, mp := .resetAt 0, sw := .reset }

end Sys2Proof.Machine
end

