-- ==== Sys2Proof/Machine/Flags.lean ====
section
/-! DEFINITION. The cause bits and IRQ (R32), and saturating counts. -/

namespace Sys2Proof.Machine

/-- The ten causes (R32). -/
inductive Cause where
  | frame
  | plan
  | alert
  | late
  | fault
  | clock
  | link
  | standby
  | mode
  | test
deriving DecidableEq, Repr

/-- The bit of a cause in CAUSE (12.2). -/
def Cause.bit : Cause → Nat
  | .frame => 0
  | .plan => 1
  | .alert => 2
  | .late => 3
  | .fault => 4
  | .clock => 5
  | .link => 6
  | .standby => 7
  | .mode => 8
  | .test => 9

/-- A cause as a word with its one bit set. -/
def Cause.word (c : Cause) : BitVec 10 := 1#10 <<< c.bit

/-- Raising a cause sets its bit, whatever CAUSE_MASK holds (R32). -/
def raise (c : Cause) (s : State) : State := { s with sw := { s.sw with cause := s.sw.cause ||| c.word } }

/-- Raising a cause under a condition. -/
def raiseIf (p : Bool) (c : Cause) (s : State) : State := if p then raise c s else s

/-- The IRQ line: asserted while any bit is set in both CAUSE and CAUSE_MASK (R32). -/
def State.irq (s : State) : Bool := (s.sw.cause &&& s.sw.mask) != 0

/-- A count that saturates at a highest value. -/
def satInc (highest n : Nat) : Nat := if n < highest then n + 1 else highest

end Sys2Proof.Machine
end

