-- ==== Sys2Proof/Machine/Bytes.lean ====
section
/-! DEFINITION. Byte order (R194), the fields of a record at their offsets, and the one CRC of the part (R2). -/

namespace Sys2Proof.Machine

/-- The number that bytes spell, most significant byte first (R194). -/
def beNat (bytes : List Byte) : Nat := bytes.foldl (fun n b => n * 256 + b.toNat) 0

/-- A number in n bytes, most significant byte first (R194). -/
def be : Nat → Nat → List Byte
  | 0, _ => []
  | n + 1, v => BitVec.ofNat 8 (v / 256 ^ n) :: be n v

/-- The len bytes at an offset. -/
def slice (bytes : List Byte) (off len : Nat) : List Byte := (bytes.drop off).take len

/-- The number in the field of len bytes at an offset. -/
def fieldAt (bytes : List Byte) (off len : Nat) : Nat := beNat (slice bytes off len)

/-- The byte at an offset. -/
def byteAt (bytes : List Byte) (off : Nat) : Byte := bytes.getD off 0

/-- The 16-bit field at an offset. -/
def u16At (bytes : List Byte) (off : Nat) : U16 := BitVec.ofNat 16 (fieldAt bytes off 2)

/-- The 32-bit field at an offset. -/
def u32At (bytes : List Byte) (off : Nat) : U32 := BitVec.ofNat 32 (fieldAt bytes off 4)

/-- The 40-bit address in 5 bytes at an offset (R194). -/
def addrAt (bytes : List Byte) (off : Nat) : Addr := BitVec.ofNat 40 (fieldAt bytes off 5)

/-- n bytes of 0x00. -/
def zeros (n : Nat) : List Byte := List.replicate n 0

/-- One shift of the remainder register by the generator x^16 + x^12 + x^5 + 1 (R2). -/
def crcShift (r : U16) : U16 := if r.msb then (r <<< 1) ^^^ 0x1021#16 else r <<< 1

/-- The remainder register after one covered byte, most significant bit first (R2). -/
def crcByte (r : U16) (b : Byte) : U16 :=
  crcShift (crcShift (crcShift (crcShift (crcShift (crcShift (crcShift (crcShift
    (r ^^^ (b.zeroExtend 16 <<< 8)))))))))

/-- The initial remainder (R2). -/
def crcInit : U16 := 0xFFFF#16

/-- The remainder register after a run of covered bytes (R2). -/
def crcFold (r : U16) (bytes : List Byte) : U16 := bytes.foldl crcByte r

/-- The CRC of the covered bytes: the remainder from 0xFFFF, inverted (R2). -/
def crc16 (bytes : List Byte) : U16 := ~~~ crcFold crcInit bytes

/-- A 16-bit number as two bytes (R194). -/
def be16 (v : U16) : List Byte := be 2 v.toNat

/-- A 32-bit number as four bytes (R194). -/
def be32 (v : U32) : List Byte := be 4 v.toNat

/-- A field of some bytes placed at an offset of a run of bytes. -/
def placeAt (bytes : List Byte) (off : Nat) (part : List Byte) : List Byte :=
  bytes.take off ++ part ++ bytes.drop (off + part.length)

/-- A character of a name or a text: a byte outside 0x20 to 0x7E and 0xA0 to 0xFF becomes the space (R43, R99). -/
def cleanChar (b : Byte) : Byte :=
  if (0x20 ≤ b.toNat ∧ b.toNat ≤ 0x7E) ∨ 0xA0 ≤ b.toNat then b else 0x20

end Sys2Proof.Machine
end

