-- ==== Sys2Proof/Machine/Operands.lean ====
section
/-! DEFINITION. The codes of named values (R196), the registers as words (12.2), a CONTROL word as commands
(R20), and the bytes that a response delivers (R183). -/

namespace Sys2Proof.Machine

/-! ### Codes (R196) -/

def DevMode.code : DevMode → Nat
  | .stopped => 0 | .starting => 1 | .running => 2 | .holding => 3

def ModeRequest.code : ModeRequest → Nat
  | .none => 0 | .run => 1 | .hold => 2 | .stop => 3

def TimerState.code : TimerState → Nat
  | .internal => 0 | .locked => 1 | .holdover => 2

def StartResult.code : StartResult → Nat
  | .none => 0 | .pending => 1 | .ok => 2 | .rootAddress => 3 | .rootSignature => 4
  | .rootFault => 5 | .noPlan => 6 | .planInvalid => 7 | .aborted => 8

def ResumeReason.code : ResumeReason → Nat
  | .none => 0 | .request => 1 | .emergency => 2

def PlanState.code : PlanState → Nat
  | .idle => 0 | .loading => 1 | .countdown => 2 | .cancelling => 3

def PlanResult.code : PlanResult → Nat
  | .none => 0 | .accepted => 1 | .switched => 2 | .cancelled => 3 | .superseded => 4
  | .fault => 5 | .check => 6 | .count => 7 | .range => 8 | .overlap => 9 | .duplicate => 10
  | .ring => 11

def AlertPhase.code : AlertPhase → Nat
  | .none => 0 | .announcing => 1 | .active => 2 | .releasing => 3

def AlertSource.code : AlertSource → Nat
  | .telegram => 1 | .cell => 2

def Substitution.code : Substitution → Nat
  | .normal => 0 | .repeating => 1 | .silent => 2 | .dormant => 3

def LateReason.code : LateReason → Nat
  | .none => 0 | .absent => 1 | .torn => 2 | .overlong => 3 | .fault => 4 | .slow => 5

def Carousel.code : Carousel → Nat
  | .idle => 0 | .sending => 1 | .dwelling => 2

def RegionState.code : RegionState → Nat
  | .invalid => 0 | .loading => 1 | .valid => 2

def LoadResult.code : LoadResult → Nat
  | .none => 0 | .loaded => 1 | .tooLong => 2 | .badRegion => 3 | .format => 4 | .fault => 5
  | .superseded => 6

/-- The region a region code names (R196); none for a code that names none of the four. -/
def RegionId.ofCode (c : Byte) : Option RegionId :=
  if c = 1 then some .silence else if c = 2 then some .loop
  else if c = 3 then some .picture else if c = 4 then some .text else none

/-- The line rate a rate code names (R196); none for a code that names none of the four. -/
def LineRate.ofCode (c : Byte) : Option LineRate :=
  if c = 1 then some .baud2400 else if c = 2 then some .baud9600
  else if c = 3 then some .baud19200 else if c = 4 then some .baud38400 else none

/-- The place of a reject reason in the status block (R198). -/
def RejectReason.index : RejectReason → Fin 10
  | .overrun => 0 | .timeout => 1 | .framing => 2 | .parity => 3 | .noise => 4 | .restart => 5
  | .format => 6 | .check => 7 | .level => 8 | .area => 9

/-- The bit of CONTROL that the frame source has (12.2). -/
def sourceBit : FrameSource → Nat
  | .internal => 0
  | .external => 1

/-! ### Registers (12.2) -/

/-- IDENT: the family code 0x2460 and the revision 1 (R30). -/
def identWord : BitVec 32 := 0x24600001#32

/-- CONTROL as it reads: the frame source and the FRAME_MARK enable; the commands read as 0 (R20). -/
def State.controlWord (s : State) : BitVec 32 :=
  BitVec.ofNat 32 (16 * sourceBit s.regs.source + 32 * s.regs.markEnable.toNat)

/-- The 40-bit root address held in ROOT_HI and ROOT_LO (R30). -/
def State.rootAddress (s : State) : Addr := s.regs.rootHi ++ s.regs.rootLo

/-- ROOT_HI as it reads. -/
def State.rootHiWord (s : State) : BitVec 32 := s.regs.rootHi.zeroExtend 32

/-- CAUSE as a read of it returns it (R32). -/
def State.causeWord (s : State) : BitVec 32 := s.sw.cause.zeroExtend 32

/-- CAUSE_MASK as it reads. -/
def State.maskWord (s : State) : BitVec 32 := s.sw.mask.zeroExtend 32

/-- FRAME_NOW as it reads, at the moment of the read (R31). -/
def State.frameNowWord (s : State) : BitVec 32 :=
  BitVec.ofNat 32 (s.modes.mode.code + 4 * s.modes.pending.code + 16 * s.ft.state.code
    + 256 * s.modes.startResult.code + 65536 * (s.tp.lastSerial.toNat % 65536))

/-- A CONTROL write as the commands it makes (R20): the soft-reset command alone when it is set; otherwise the
source, the enable, and the mode request, each acting by its own rule. -/
def controlWrite (w : BitVec 32) : List Instr :=
  if w.getLsbD 8 then [.softReset w]
  else
    [.frameSourceSelect (if w.getLsbD 4 then .external else .internal),
     .frameMarkEnable (w.getLsbD 5)]
    ++ (if w.extractLsb' 0 2 = 1#2 then [.modeRequestRun]
        else if w.extractLsb' 0 2 = 2#2 then [.modeRequestHold]
        else if w.extractLsb' 0 2 = 3#2 then [.modeRequestStop] else [])

/-- The seven registers (12.2). -/
inductive PortRegister where
  | ident
  | control
  | rootLo
  | rootHi
  | cause
  | causeMask
  | frameNow
deriving DecidableEq, Repr

/-- The offset of a register on the register port (R194, 12.2). -/
def PortRegister.offset : PortRegister → Nat
  | .ident => 0x00
  | .control => 0x04
  | .rootLo => 0x08
  | .rootHi => 0x0C
  | .cause => 0x10
  | .causeMask => 0x14
  | .frameNow => 0x18

/-- The register at an offset of the register port; none lies at any other offset (12.2). -/
def registerAt (offset : Nat) : Option PortRegister :=
  [.ident, .control, .rootLo, .rootHi, .cause, .causeMask, .frameNow].find? (fun r => r.offset == offset)

/-- A register as it reads, the whole word at one moment (12.2, R30, R31, R32). -/
def PortRegister.word : PortRegister → State → BitVec 32
  | .ident, _ => identWord
  | .control, s => s.controlWord
  | .rootLo, s => s.regs.rootLo
  | .rootHi, s => s.rootHiWord
  | .cause, s => s.causeWord
  | .causeMask, s => s.maskWord
  | .frameNow, s => s.frameNowWord

/-- A write of a register as the commands it makes: CONTROL by its fields (R20), the root address (R30), the mask (R32), and the
registers that have no write behaviour (R30). -/
def PortRegister.commands : PortRegister → BitVec 32 → List Instr
  | .ident, w => [.registerWrite .ident w]
  | .control, w => controlWrite w
  | .rootLo, w => [.rootAddressWrite .rootLo w]
  | .rootHi, w => [.rootAddressWrite .rootHi w]
  | .cause, w => [.registerWrite .cause w]
  | .causeMask, w => [.causeMaskWrite w]
  | .frameNow, w => [.registerWrite .frameNow w]

/-- A write at an offset of the register port, as the commands it makes (12.2). No register lies at another offset, and a write
there makes none: log entry 28. -/
def portWrite (offset : Nat) (w : BitVec 32) : List Instr :=
  match registerAt offset with
  | some r => r.commands w
  | none => []

/-- A read of a register: its word goes to the port, and a read of CAUSE clears the bits it returns (R32). Only CAUSE's read is a
row of the table, for the others change nothing else: log entry 28. -/
def readRegister (r : PortRegister) (s : State) : State :=
  let s' := { s with regs := { s.regs with readData := r.word s } }
  if r = .cause then { s' with sw := { s'.sw with cause := s.sw.cause &&& ~~~ s.sw.cause } } else s'

/-- A read at an offset of the register port (12.2); at an offset of no register it puts no word on the port: log entry 28. -/
def portRead (offset : Nat) (s : State) : State :=
  match registerAt offset with
  | some r => readRegister r s
  | none => s

/-! ### The bytes of a response (R183) -/

/-- The n bytes that a DATA response delivers: the bytes it carries, and a free value for each byte that it
leaves out. -/
def deliver (draw n : Nat) (bytes : List Byte) : List Byte :=
  bytes.take n ++ (List.range (n - bytes.length)).map (fun i => Config.undeliveredByte draw (bytes.length + i))

/-- The outcome a bus response stands for (R189). -/
def toTransfer : BusOutcome → TransferOutcome
  | .data bytes => .data bytes
  | .error => .error

/-- The area codes, or none, that a root control area's line configuration holds: 0 is no code (R159). -/
def rootAreaCodes (b : List Byte) : List U16 := [u16At b 58, u16At b 60, u16At b 62, u16At b 64]

/-- A number brought into a range. -/
def clamp (lo hi n : Nat) : Nat := if n < lo then lo else if hi < n then hi else n

/-- The signature of the root control area (R23). -/
def rootSignature : List Byte := [0x55, 0x46, 0x24, 0x60]

/-- The 128 bytes of the root control area as the values CP accepts, in range by R197 (12.5). -/
def rootValues (b : List Byte) : RootValues where
  planSeq := u16At b 4
  planAddr := addrAt b 8
  cellSeq := u16At b 16
  cellType := byteAt b 18
  cellId := byteAt b 19
  cellLevel := byteAt b 20
  cellMask := byteAt b 21
  cellDuration := fieldAt b 22 2
  cellTextAddr := addrAt b 24
  cellTextLen := fieldAt b 29 1
  standbySeq := u16At b 32
  standbyRegion := byteAt b 34
  standbyAddr := addrAt b 36
  standbyLen := fieldAt b 42 2
  anchorSerial := u32At b 48
  anchorMs := fieldAt b 52 4
  rateCode := byteAt b 56
  areaCodes := rootAreaCodes b
  loopOnly := (byteAt b 68).getLsbD 0
  ringDepth := clamp 2 64 (fieldAt b 69 1)
  slotSize := clamp 64 3840 (fieldAt b 70 2)
  ringBase := addrAt b 72
  stepInterval := clamp 1 255 (fieldAt b 77 1)
  alertQuantum := clamp 0 16383 (fieldAt b 78 2)
  alertPrefix := slice b 80 (clamp 0 16 (fieldAt b 96 1))
  statusAddr := addrAt b 100

end Sys2Proof.Machine
end

