-- ==== Sys2Proof/Machine/Line.lean ====
section
/-! DEFINITION. The Alert Line Receiver, the Receive FIFO and the Telegram Parser (chapter 9). -/

namespace Sys2Proof.Machine

/-! ### The Receive FIFO (R153, R154) -/

/-- The flags of a completed entry, before the FIFO gives it OVERRUN_BEFORE (R153). -/
def idleMarkerEntry : FifoEntry :=
  { value := none, noise := false, parity := false, framing := false, isBreak := false, overrunBefore := false }

/-- An entry completes: it is stored behind the newest, or lost when the FIFO is full (R153, R154). -/
def storeEntry (e : FifoEntry) (s : State) : State :=
  if s.alr.fifo.length < Config.fifoDepth then
    { s with alr := { s.alr with
        fifo := s.alr.fifo ++ [{ e with overrunBefore := s.alr.overrun }], overrun := false } }
  else
    raise .link { s with alr := { s.alr with lost := satInc Config.max32 s.alr.lost, overrun := true } }

/-! ### Samples in HUNT (R149, R152) -/

/-- The idle count at which an IDLE marker completes: 320 samples (R152). -/
def idleLimit : Nat := 320

/-- An IDLE marker completes: the idle count stays at 320 and the marker is disarmed (R152). -/
def completeIdleMarker (s : State) : State :=
  let s := storeEntry idleMarkerEntry s
  { s with alr := { s.alr with idleCount := idleLimit, armed := false } }

/-- n samples counted as samples in HUNT: the idle count advances while the marker is armed (R152). -/
def countIdle (n : Nat) (s : State) : State :=
  if s.alr.armed then
    if idleLimit ≤ s.alr.idleCount + n then completeIdleMarker s
    else { s with alr := { s.alr with idleCount := s.alr.idleCount + n } }
  else s

/-- A falling edge after some samples in HUNT (R149): the sample at level 0, itself taken in HUNT, becomes sample 0 of a
start bit. With no sample at level 1 before it there is no edge (R151). Samples that an IDLE marker has already counted find the
marker disarmed, and are not counted again. -/
def fallingEdge (hunted : Nat) (s : State) : State :=
  if s.alr.state = .hunt ∧ (0 < hunted ∨ s.alr.lastSample = true) then
    let s := countIdle (hunted + 1) s
    { s with alr := { s.alr with state := .start, samplePos := 0, bit := .start, lastSample := false } }
  else s

/-- The idle stretch in HUNT reaches 320 samples with the marker armed (R152). Samples at either level count, so the marker says
nothing of the line's level: a line still low after a FRAMING entry makes no start until it has risen (R151). -/
def idleMarker (s : State) : State :=
  if s.alr.state = .hunt ∧ s.alr.armed = true then completeIdleMarker s else s

/-! ### Bits (R149, R150) -/

/-- The value of a bit: the majority of its samples 7, 8 and 9 (R150). -/
def majority (b : BitSamples) : Bool := (b.s7 && b.s8) || (b.s7 && b.s9) || (b.s8 && b.s9)

/-- The three samples do not all agree (R150). -/
def noisy (b : BitSamples) : Bool := !(b.s7 == b.s8 && b.s8 == b.s9)

/-- Samples 7, 8 and 9 of a start bit are judged (R149): accepted, or a false start, whose samples 1 to 9 count as samples in
HUNT. -/
def startBit (b : BitSamples) (s : State) : State :=
  if s.alr.state = .start then
    if majority b then
      let s := countIdle 9 { s with alr := { s.alr with state := .hunt } }
      { s with alr := { s.alr with samplePos := 9, bit := .start, lastSample := b.s9 } }
    else
      { s with alr := { s.alr with
          state := .receiving, idleCount := 0, samplePos := 9, bit := .data 0, lastSample := b.s9
          byte := { ByteAssembly.cleared with noise := noisy b } } }
  else s

/-- The byte that the judged data bits spell, least significant first (R148, R150). -/
def dataByte (bits : Vector BitSamples 8) : Byte :=
  BitVec.ofNat 8 (((List.finRange 8).map (fun k => if majority bits[k] then 2 ^ k.val else 0)).sum)

/-- How many of the data bits and the parity bit are ones (R148). -/
def oneBits (b : ByteSamples) : Nat :=
  ((List.finRange 8).map (fun k => (majority b.data[k]).toNat)).sum + (majority b.parity).toNat

/-- The byte assembled when its stop bit is judged, noise being what its start bit left (R150). -/
def assembleByte (b : ByteSamples) (noise : Bool) : ByteAssembly :=
  { value := dataByte b.data
    parityBit := majority b.parity
    noise := noise || b.data.toList.any noisy || noisy b.parity || noisy b.stop
    parity := oneBits b % 2 == 1 }

/-- A byte whose stop bit is 0 is a BREAK when its data bits and its parity bit are all 0 (R151). -/
def ByteAssembly.isBreak (a : ByteAssembly) : Bool := a.value == 0 && !a.parityBit

/-- The entry that a byte completes as, by its stop bit (R150, R151). -/
def byteEntry (a : ByteAssembly) (stop : Bool) : FifoEntry :=
  if stop then
    { value := some a.value, noise := a.noise, parity := a.parity, framing := false, isBreak := false
      overrunBefore := false }
  else if a.isBreak then
    { value := some 0, noise := a.noise, parity := false, framing := false, isBreak := true, overrunBefore := false }
  else
    { value := some a.value, noise := a.noise, parity := a.parity, framing := true, isBreak := false
      overrunBefore := false }

/-- The line state after a byte: BREAK_WAIT after a BREAK, HUNT after any other (R150, R151). -/
def stateAfterByte (a : ByteAssembly) (stop : Bool) : LineState := if !stop && a.isBreak then .breakWait else .hunt

/-- A byte completes at its stop bit (R150, R151): the entry goes to the FIFO, the idle count is 0 and the marker is armed. -/
def byteComplete (b : ByteSamples) (s : State) : State :=
  if s.alr.state = .receiving then
    let a := assembleByte b s.alr.byte.noise
    let s := storeEntry (byteEntry a (majority b.stop)) s
    { s with alr := { s.alr with
        state := stateAfterByte a (majority b.stop), byte := a, bit := .stop, samplePos := 9, idleCount := 0
        armed := true, lastSample := b.stop.s9, highRun := 0 } }
  else s

/-- Sixteen consecutive samples at level 1 end BREAK_WAIT (R151). -/
def breakWaitEnd (s : State) : State :=
  if s.alr.state = .breakWait then
    { s with alr := { s.alr with state := .hunt, lastSample := true, highRun := 16 } }
  else s

/-- The rate of an accepted poll (R148): a named rate other than the one in force takes over at once in HUNT, and otherwise
waits for the next accepted poll. DESIGN CHOICE, log entry 26: the sample position, which R148 makes start afresh, becomes 0, and the
bit being sampled stays as it stood. -/
def applyRate (code : Byte) (s : State) : State :=
  match LineRate.ofCode code with
  | some r =>
    if s.alr.state = .hunt ∧ r ≠ s.alr.rate then
      { s with alr := { s.alr with rate := r, samplePos := 0 } }
    else s
  | none => s

/-! ### The Telegram Parser (R156 to R160) -/

/-- A reject: counted, LINK raised, the telegram under assembly dropped, and the parser sent to a state (R156). -/
def reject (reason : RejectReason) (after : ParserState) (s : State) : State :=
  raise .link { s with tgp := { s.tgp with
      state := after, len := 0, body := [], crc := []
      rejects := s.tgp.rejects.set reason.index (satInc Config.max16 s.tgp.rejects[reason.index]) } }

/-- The fault of an entry that is no BREAK, the first that applies (R157). -/
def FifoEntry.fault (e : FifoEntry) : Option RejectReason :=
  if e.overrunBefore then some .overrun
  else if e.value.isNone then some .timeout
  else if e.framing then some .framing
  else if e.parity then some .parity
  else if e.noise then some .noise
  else none

/-- The area codes of the line configuration last accepted; 0 is no code (R159). -/
def State.areaCodes (s : State) : List U16 := ((s.cp.accepted.map (·.areaCodes)).getD []).filter (· != 0)

/-- The area test (R159). -/
def areaPasses (codes : List U16) (area : U16) : Bool :=
  area == 0xFFFF#16 || codes.contains 0xFFFF#16 || codes.contains area

/-- The telegram that N body bytes hold (12.7). -/
def telegramOf (body : List Byte) : Telegram :=
  { isClear := byteAt body 0 == 2, alertId := byteAt body 1, level := byteAt body 2, mask := byteAt body 3
    area := u16At body 4, duration := fieldAt body 6 2, text := slice body 9 (fieldAt body 8 1) }

/-- The first check that a complete telegram fails (R159). -/
def telegramFailure (n : Nat) (body crc : List Byte) (codes : List U16) : Option RejectReason :=
  if fieldAt body 8 1 != n - 9 || byteAt body 0 == 0 || 3 < (byteAt body 0).toNat then some .format
  else if crc16 (BitVec.ofNat 8 n :: body) != u16At crc 0 then some .check
  else if byteAt body 0 == 1 && (byteAt body 2 == 0 || 3 < (byteAt body 2).toNat) then some .level
  else if !areaPasses codes (u16At body 4) then some .area
  else none

/-- A complete telegram (R159, R160): rejected, or a TEST counted, or held. -/
def completeTelegram (crc : List Byte) (s : State) : State :=
  match telegramFailure s.tgp.len s.tgp.body crc s.areaCodes with
  | some r => reject r .hunt s
  | none =>
    let idle := { s.tgp with len := 0, body := [], crc := [] }
    if byteAt s.tgp.body 0 == 3 then
      raise .test { s with tgp := { idle with
          state := .hunt, lastTest := byteAt s.tgp.body 1, testCount := satInc Config.max16 s.tgp.testCount } }
    else { s with tgp := { idle with state := .hold, hold := some (telegramOf s.tgp.body) } }

/-- A clean byte in LENGTH (R158). -/
def lengthByte (b : Byte) (s : State) : State :=
  if 9 ≤ b.toNat ∧ b.toNat ≤ 137 then
    { s with tgp := { s.tgp with state := .body, len := b.toNat, body := [], crc := [] } }
  else reject .format .hunt s

/-- A clean byte in BODY (R158). -/
def bodyByte (b : Byte) (s : State) : State :=
  let body := s.tgp.body ++ [b]
  { s with tgp := { s.tgp with body := body, state := if s.tgp.len ≤ body.length then .check else .body } }

/-- A clean byte in CHECK (R158). -/
def checkByte (b : Byte) (s : State) : State :=
  let crc := s.tgp.crc ++ [b]
  if crc.length < 2 then { s with tgp := { s.tgp with crc := crc } } else completeTelegram crc s

/-- A clean byte, by the parser's state (R157, R158). -/
def cleanByte (b : Byte) (s : State) : State :=
  match s.tgp.state with
  | .marker => { s with tgp := { s.tgp with state := if b = 0xA5 then .length else .hunt } }
  | .length => lengthByte b s
  | .body => bodyByte b s
  | .check => checkByte b s
  | .hunt => s
  | .hold => s

/-- A BREAK entry (R157). -/
def breakEntry (e : FifoEntry) (s : State) : State :=
  match s.tgp.state with
  | .hunt => { s with tgp := { s.tgp with state := .marker } }
  | .marker => s
  | .length => reject (if e.overrunBefore then .overrun else .restart) .marker s
  | .body => reject (if e.overrunBefore then .overrun else .restart) .marker s
  | .check => reject (if e.overrunBefore then .overrun else .restart) .marker s
  | .hold => s

/-- The parser acts on an entry it has taken (R157). -/
def parseEntry (e : FifoEntry) (s : State) : State :=
  if e.isBreak then breakEntry e s
  else if s.tgp.state = .hunt then s
  else
    match e.fault, e.value with
    | some r, _ => reject r .hunt s
    | none, some b => cleanByte b s
    | none, none => s

/-- The parser takes the oldest entry of the FIFO, when there is one and it is not in HOLD (R153, R161). -/
def takeEntry (s : State) : State :=
  match s.alr.fifo with
  | e :: rest =>
    if s.tgp.state = .hold then s else parseEntry e { s with alr := { s.alr with fifo := rest } }
  | [] => s

end Sys2Proof.Machine
end

