-- ==== Sys2Proof/Machine/Ops.lean ====
section
/-! DEFINITION. The operations the blocks share: the state kept for a service, the entry of a service in the
ACTIVE plan, and the Memory Port's list, grants and withdrawals. -/

namespace Sys2Proof.Machine

/-! ### Services and the ACTIVE plan -/

/-- The plan of the ACTIVE bank, when it is READY (R40). -/
def Bank.plan? : Bank → Option Plan
  | .ready p => some p
  | .empty => none
  | .filling => none

/-- Whether a bank is READY (R40). -/
def Bank.isReady (b : Bank) : Bool := b.plan?.isSome

/-- The entries of the plan in the ACTIVE bank; none when the bank is not READY. -/
def State.entries (s : State) : List PlanEntry := (s.pm.active.plan?.map (·.entries)).getD []

/-- The entry of a service in the ACTIVE plan. -/
def State.entryOf (s : State) (sid : U16) : Option PlanEntry := s.entries.find? (·.sid == sid)

/-- The state kept for a service. -/
def State.serviceOf (s : State) (sid : U16) : Option Service := s.services.find? (·.sid == sid)

/-- An update of the state kept for a service, and of no other. -/
def updateService (sid : U16) (f : Service → Service) (s : State) : State :=
  { s with services := s.services.map (fun v => if v.sid == sid then f v else v) }

/-- The frame being assembled: the serial that the next frame start gives (R14). -/
def State.assembling (s : State) : U32 := s.ft.nextSerial

/-- The low 16 bits of a frame serial: a frame number or a stamp. -/
def low16 (serial : U32) : U16 := serial.setWidth 16

/-- Whether a frame period with an assembly period is running (R15). -/
def State.inAssembly (s : State) : Bool := s.modes.mode == .running || s.modes.mode == .holding

/-- Whether the frame being assembled is packed: it is fixed RUNNING (R26, R82). The timers that packings count stand still in any
other (R109, R114, R129). -/
def State.packs (s : State) : Bool := s.modes.mode == .running

/-- An update of the state kept for a service, made when the frame being assembled is packed. -/
def updateWhenPacked (sid : U16) (f : Service → Service) (s : State) : State :=
  if s.packs then updateService sid f s else s

/-- Whether a service is a target of the most recently fixed frame, and that frame is fixed ACTIVE (R176). -/
def State.isTarget (s : State) (sid : U16) : Bool := s.ac.phase == .active && s.ac.targets.contains sid

/-- A number of bytes added to an address; past the top address it goes on at 0 (R183). -/
def addrPlus (a : Addr) (n : Nat) : Addr := a + BitVec.ofNat 40 n

/-- The clock reaches a moment; it never goes back. -/
def reachTime (t : Nat) (s : State) : State := { s with now := max s.now t }

/-! ### The Memory Port (chapter 11) -/

/-- The block a purpose belongs to (R184). -/
def Purpose.owner : Purpose → Owner
  | .rootRead => .cp
  | .rootPoll => .cp
  | .planLoad => .pm
  | .status => .sw
  | .slotHeader _ => .cr
  | .slotPayload _ => .cr
  | .slotConfirm _ => .cr
  | .labelPoll _ => .le
  | .labelFetch _ => .le
  | .listHeader _ => .pe
  | .listEntry _ => .pe
  | .refillRecord _ => .pe
  | .refillData _ => .pe
  | .alertText => .ac
  | .standby => .ss

/-- The class each owner gives its requests (R184). -/
def Purpose.cls : Purpose → Class
  | .slotHeader .alert => .urgent
  | .slotPayload .alert => .urgent
  | .slotConfirm .alert => .urgent
  | .alertText => .urgent
  | .slotHeader (.service _) => .timed
  | .slotPayload (.service _) => .timed
  | .slotConfirm (.service _) => .timed
  | .rootRead => .control
  | .rootPoll => .control
  | .planLoad => .control
  | .status => .control
  | .labelPoll _ => .bulk
  | .labelFetch _ => .bulk
  | .listHeader _ => .bulk
  | .listEntry _ => .bulk
  | .refillRecord _ => .bulk
  | .refillData _ => .bulk
  | .standby => .bulk

/-- The place of the oldest waiting request of a class. The list is in order of entry, oldest first. -/
def oldestOf (c : Class) (waiting : List Request) : Option Nat := waiting.findIdx? (·.cls == c)

/-- The place of the front request: the oldest of the highest class that has any waiting (R185, R187). -/
def frontPlace (waiting : List Request) : Option Nat :=
  (oldestOf .urgent waiting).or ((oldestOf .timed waiting).or
    ((oldestOf .control waiting).or (oldestOf .bulk waiting)))

/-- The lowest-numbered FREE slot (R187). -/
def MemoryPort.freeSlot (m : MemoryPort) : Option (Fin 8) :=
  (List.finRange 8).find? (fun i => m.slots[i].isNone)

/-- What a grant means to the owner: CP's poll is IN_FLIGHT (2.3); the first transfer of a write-back makes it
WRITING and the status sequence counts (R36). -/
def grantedTo (p : Purpose) (s : State) : State :=
  match p with
  | .rootPoll => { s with cp := { s.cp with poll := .inFlight } }
  | .status =>
    if s.sw.state == .waiting then
      { s with sw := { s.sw with state := .writing, sequence := s.sw.sequence + 1 } }
    else s
  | _ => s

/-- One grant, when no quiet time runs, a slot is FREE and a request waits (R187, R193). -/
def grantOne (s : State) : State :=
  match s.mp.quietEnd, s.mp.freeSlot, frontPlace s.mp.waiting with
  | none, some i, some k =>
    match s.mp.waiting[k]? with
    | some r =>
      grantedTo r.purpose
        { s with mp := { s.mp with
            waiting := s.mp.waiting.eraseIdx k
            slots := s.mp.slots.set i (some
              { request := r, grant := s.mp.grantCounter, grantTime := s.now, withdrawn := false })
            grantCounter := s.mp.grantCounter + 1 } }
    | none => s
  | _, _, _ => s

/-- Up to n grants, one after another. -/
def grantUpTo : Nat → State → State
  | 0, s => s
  | n + 1, s => grantUpTo n (grantOne s)

/-- Grants until no slot is FREE or no request waits: there are eight slots (R187). -/
def grantAll (s : State) : State := grantUpTo 8 s

/-- A request placed at the back of the waiting list, with the entry time of the moment (R185). -/
def ask (p : Purpose) (data : Option (List Byte)) (addr : Addr) (len : Nat) (s : State) : State :=
  { s with mp := { s.mp with
      waiting := s.mp.waiting ++ [{ purpose := p, cls := p.cls, data := data, addr := addr, len := len, entry := s.now }] } }

/-- A request enters the waiting list (R185). A slot that is FREE at that moment is granted at once (R187), but
not while an owner takes an outcome: then the freed slot waits for its own grant (R189). -/
def enter (p : Purpose) (data : Option (List Byte)) (addr : Addr) (len : Nat) (s : State) : State :=
  if s.mp.completing then ask p data addr len s else grantAll (ask p data addr len s)

/-- A read request of an owner. -/
def enterRead (p : Purpose) (addr : Addr) (len : Nat) (s : State) : State := enter p none addr len s

/-- An owner withdraws its requests of some purposes: waiting ones are dropped, those in flight are marked (R192). -/
def withdraw (which : Purpose → Bool) (s : State) : State :=
  { s with mp := { s.mp with
      waiting := s.mp.waiting.filter (fun r => !which r.purpose)
      slots := s.mp.slots.map (Option.map (fun f =>
        if which f.request.purpose then { f with withdrawn := true } else f)) } }

/-- SW amends its waiting write-back: the address is replaced and the request keeps its place (R185, R35). -/
def amendStatus (addr : Addr) (s : State) : State :=
  { s with mp := { s.mp with
      waiting := s.mp.waiting.map (fun r => if r.purpose == .status then { r with addr := addr } else r) } }

/-- The service a purpose concerns, if it concerns one. -/
def Purpose.service? : Purpose → Option U16
  | .slotHeader (.service sid) => some sid
  | .slotPayload (.service sid) => some sid
  | .slotConfirm (.service sid) => some sid
  | .labelPoll sid => some sid
  | .labelFetch sid => some sid
  | .listHeader sid => some sid
  | .listEntry sid => some sid
  | .refillRecord sid => some sid
  | .refillData sid => some sid
  | _ => none

/-- The transfers of slot reads, of services and of the alert ring. -/
def Purpose.isSlot : Purpose → Bool
  | .slotHeader _ => true
  | .slotPayload _ => true
  | .slotConfirm _ => true
  | _ => false

/-- The label record transfers of a service. -/
def Purpose.isLabelOf (sid : U16) (p : Purpose) : Bool := p == .labelPoll sid || p == .labelFetch sid

/-- The refill transfers of a service. -/
def Purpose.isRefillOf (sid : U16) (p : Purpose) : Bool := p == .refillRecord sid || p == .refillData sid

/-- The picture transfers of a service: selections and refills. -/
def Purpose.isPictureOf (sid : U16) (p : Purpose) : Bool :=
  p == .listHeader sid || p == .listEntry sid || p.isRefillOf sid

/-- A region of the Standby Store (R178). -/
def StandbyStore.region (t : StandbyStore) : RegionId → Region
  | .silence => t.silence
  | .loop => t.loop
  | .picture => t.picture
  | .text => t.text

/-- A region of the Standby Store replaced. -/
def StandbyStore.setRegion (t : StandbyStore) (i : RegionId) (r : Region) : StandbyStore :=
  match i with
  | .silence => { t with silence := r }
  | .loop => { t with loop := r }
  | .picture => { t with picture := r }
  | .text => { t with text := r }

/-- The bytes of a region that is read: present only when it is VALID (R179). -/
def Region.readable (r : Region) : Option (List Byte) := if r.state == .valid then some r.bytes else none

end Sys2Proof.Machine
end

