-- ==== Sys2Proof/Machine/Alerts.lean ====
section
/-! DEFINITION. The Alert Controller (10.1 to 10.4): requests, the Alert Queue, the alert phase and the targets. -/

namespace Sys2Proof.Machine

/-- The clamped duration in frames: ceil(s × 125 / 6) (R166). -/
def durationFrames (seconds : Nat) : Nat :=
  let s := if seconds = 0 then 3600 else clamp 10 3600 seconds
  (s * 125 + 5) / 6

/-- An ALERT or a CLEAR taken at a cut-off (R165). -/
structure AlertRequest where
  source   : AlertSource
  isClear  : Bool
  alertId  : Byte
  level    : Nat
  mask     : Byte
  duration : Nat
  text     : List Byte
deriving DecidableEq, Repr

/-- Whether an entry has a source and an alert id. -/
def AlertEntry.is (source : AlertSource) (alertId : Byte) (e : AlertEntry) : Bool :=
  e.source == source && e.alertId == alertId

/-- An entry comes before another in the queue: by level, highest first, then by insertion (R167). -/
def AlertEntry.before (a b : AlertEntry) : Bool := b.level < a.level || (a.level == b.level && a.order < b.order)

/-- An entry at its place in the queue (R167). -/
def placeEntry (e : AlertEntry) : List AlertEntry → List AlertEntry
  | [] => [e]
  | x :: xs => if e.before x then e :: x :: xs else x :: placeEntry e xs

/-- The first WAITING entry: the one nearest the front (R167). -/
def firstWaiting (q : List AlertEntry) : Option AlertEntry := q.find? (·.state == .waiting)

/-- The current entry: the one whose state is not WAITING (R167). -/
def currentEntry (q : List AlertEntry) : Option AlertEntry := q.find? (·.state != .waiting)

/-- The entry removed. -/
def removeEntry (e : AlertEntry) (q : List AlertEntry) : List AlertEntry :=
  q.filter (fun x => !x.is e.source e.alertId)

/-- The entry replaced where it stands. -/
def replaceEntry (e : AlertEntry) (q : List AlertEntry) : List AlertEntry :=
  q.map (fun x => if x.is e.source e.alertId then e else x)

/-- The update of an entry by an ALERT (R168): an entry in RELEASING returns to WAITING. -/
def AlertEntry.updated (r : AlertRequest) (e : AlertEntry) : AlertEntry :=
  let e := { e with level := r.level, mask := r.mask, text := r.text, remaining := durationFrames r.duration }
  if e.state == .releasing then { e with state := .waiting, announce := 0, endMark := false } else e

/-- A new entry of an ALERT (R169). -/
def newEntry (r : AlertRequest) (order : Nat) : AlertEntry :=
  { source := r.source, alertId := r.alertId, level := r.level, mask := r.mask
    remaining := durationFrames r.duration, text := r.text, state := .waiting, announce := 0, endMark := false
    order := order }

/-- The WAITING entry that a full queue displaces (R169): of the lowest level, the most recently inserted. The queue is
in order, so it is the last WAITING entry. -/
def displaced (q : List AlertEntry) : Option AlertEntry := (q.filter (·.state == .waiting)).getLast?

/-- Counts a request or an entry discarded without effect (R162). -/
def AlertController.drop (a : AlertController) : AlertController := { a with drops := satInc Config.max16 a.drops }

/-- A new entry inserted at its place; a level-3 insertion is recorded for the cut-off (R165, R169). -/
def AlertController.insert (r : AlertRequest) (a : AlertController) : AlertController :=
  { a with
    queue := placeEntry (newEntry r a.nextOrder) a.queue, nextOrder := a.nextOrder + 1
    level3Inserted := a.level3Inserted || r.level == 3 }

/-- What applying a request did: the controller after it, and whether an entry was inserted, updated, removed,
displaced or dropped (R175). -/
structure Applied where
  ac      : AlertController
  changed : Bool

/-- An ALERT applied to the queue (R168, R169). -/
def applyAlert (r : AlertRequest) (a : AlertController) : Applied :=
  match a.queue.find? (·.is r.source r.alertId) with
  | some e =>
    { ac := { a with queue := placeEntry (e.updated r) (removeEntry e a.queue) }, changed := true }
  | none =>
    if a.queue.length < 4 then { ac := a.insert r, changed := true }
    else
      match displaced a.queue with
      | some m =>
        if m.level < r.level then
          { ac := AlertController.insert r { a.drop with queue := removeEntry m a.queue }, changed := true }
        else { ac := a.drop, changed := true }
      | none => { ac := a.drop, changed := true }

/-- A CLEAR applied to the queue (R170). -/
def applyClear (r : AlertRequest) (a : AlertController) : Applied :=
  match a.queue.find? (·.is r.source r.alertId) with
  | some e =>
    match e.state with
    | .waiting => { ac := { a with queue := removeEntry e a.queue }, changed := true }
    | .announcing => { ac := { a with queue := replaceEntry { e with endMark := true } a.queue }, changed := false }
    | .active => { ac := { a with queue := replaceEntry { e with endMark := true } a.queue }, changed := false }
    | .releasing => { ac := a, changed := false }
  | none => { ac := a.drop, changed := false }

/-- A request applied to the queue (R165). -/
def applyRequest (r : AlertRequest) (a : AlertController) : Applied :=
  if r.isClear then applyClear r a else applyAlert r a

/-- The request a held telegram makes (R165). -/
def Telegram.request (t : Telegram) : AlertRequest :=
  { source := .telegram, isClear := t.isClear, alertId := t.alertId, level := t.level.toNat, mask := t.mask
    duration := t.duration, text := t.text }

/-- The request a COMPLETE cell makes (R165). -/
def CellRequest.request (c : CellRequest) : AlertRequest :=
  { source := .cell, isClear := c.isClear, alertId := c.alertId, level := c.level.toNat, mask := c.mask
    duration := c.duration, text := c.text }

/-- AC takes the telegram held by the parser, which returns to HUNT (R161, R165). -/
def takeTelegram (s : State) : State :=
  let s := { s with ac := { s.ac with level3Inserted := false } }
  match s.tgp.hold with
  | some t =>
    let r := applyRequest t.request s.ac
    raiseIf r.changed .alert { s with ac := r.ac, tgp := { s.tgp with hold := none, state := .hunt } }
  | none => s

/-- AC takes the cell request when it is COMPLETE (R165). -/
def takeCell (s : State) : State :=
  match s.ac.cell with
  | some c =>
    if c.complete then
      let r := applyRequest c.request { s.ac with cell := none }
      raiseIf r.changed .alert { s with ac := r.ac }
    else s
  | none => s

/-- AC takes the requests waiting for it at a cut-off, the telegram first (R165). -/
def takeRequests (s : State) : State := takeCell (takeTelegram s)

/-! ### The host's cell (R163, R164) -/

/-- The default text: up to 128 of the bytes of the TEXT region when it is VALID (R164, R179). -/
def State.defaultText (s : State) : List Byte := (s.ss.text.readable.getD []).take 128

/-- The cell request that a cell's fields make. -/
def cellRequest (v : RootValues) (complete : Bool) (text : List Byte) : CellRequest :=
  { complete := complete, isClear := v.cellType == 2, alertId := v.cellId, level := v.cellLevel
    mask := v.cellMask, duration := v.cellDuration, text := text }

/-- A changed alert cell is handed to AC (R163). -/
def alertCell (v : RootValues) (s : State) : State :=
  let s := withdraw (· == .alertText) s
  let s := { s with ac := if s.ac.cell.isSome then { s.ac.drop with cell := none } else s.ac }
  let hold (c : CellRequest) (s : State) : State := { s with ac := { s.ac with cell := some c } }
  if v.cellType == 2 then hold (cellRequest v true []) s
  else if v.cellType != 1 || v.cellLevel == 0 || 3 < v.cellLevel.toNat then { s with ac := s.ac.drop }
  else if v.cellTextAddr == 0 then hold (cellRequest v true s.defaultText) s
  else if v.cellTextLen == 0 then hold (cellRequest v true []) s
  else enterRead .alertText v.cellTextAddr (min 128 v.cellTextLen) (hold (cellRequest v false []) s)

/-- The completion of the text read of a FETCHING cell (R164). -/
def alertTextDone (o : TransferOutcome) (s : State) : State :=
  let text := match o with
    | .data bytes => bytes
    | .error => s.defaultText
    | .timeout => s.defaultText
  { s with ac := { s.ac with cell := s.ac.cell.map (fun c => { c with complete := true, text := text }) } }

/-! ### Fixing the alert phase (R171 to R176) -/

/-- The phase that an entry's state gives a frame. -/
def EntryState.phase : EntryState → AlertPhase
  | .waiting => .none
  | .announcing => .announcing
  | .active => .active
  | .releasing => .releasing

/-- An entry returned to WAITING, its remaining frames kept (R171 to R173). -/
def AlertEntry.rest (e : AlertEntry) : AlertEntry := { e with state := .waiting, announce := 0 }

/-- An entry fixed ACTIVE for a frame: its remaining frames count that frame (R172, R173). -/
def AlertEntry.runFrame (e : AlertEntry) : AlertEntry :=
  { e with state := .active, announce := 0, remaining := e.remaining - 1 }

/-- An entry that goes on where an announcement of count a stood (R173). -/
def AlertEntry.announceOn (a : Nat) (e : AlertEntry) : AlertEntry :=
  if a = 1 then { e with state := .announcing, announce := 2 } else e.runFrame

/-- The queue after the fixing of a frame fixed HOLDING (R171). -/
def fixHolding (q : List AlertEntry) : List AlertEntry :=
  match currentEntry q with
  | some c =>
    if c.state == .releasing || c.endMark || (c.state == .active && c.remaining == 0) then removeEntry c q
    else replaceEntry c.rest q
  | none => q

/-- The queue when the current entry was ACTIVE (R172). -/
def fixActive (c : AlertEntry) (q : List AlertEntry) : List AlertEntry :=
  let ends := c.endMark || c.remaining == 0
  match firstWaiting q with
  | some w =>
    if ends then replaceEntry w.runFrame (removeEntry c q)
    else if c.level < w.level then replaceEntry w.runFrame (replaceEntry c.rest q)
    else replaceEntry c.runFrame q
  | none => if ends then replaceEntry { c with state := .releasing } q else replaceEntry c.runFrame q

/-- The queue when the current entry was ANNOUNCING with announce count a (R173). -/
def fixAnnouncing (c : AlertEntry) (q : List AlertEntry) : List AlertEntry :=
  match firstWaiting q with
  | some w =>
    if c.endMark then replaceEntry (w.announceOn c.announce) (removeEntry c q)
    else if c.level < w.level then replaceEntry (w.announceOn c.announce) (replaceEntry c.rest q)
    else replaceEntry (c.announceOn c.announce) q
  | none =>
    if c.endMark then replaceEntry { c with state := .releasing } q
    else replaceEntry (c.announceOn c.announce) q

/-- The queue when there was no current entry, or it was RELEASING and is removed: the first WAITING entry begins to
announce (R174). -/
def fixFresh (q : List AlertEntry) : List AlertEntry :=
  match firstWaiting q with
  | some w => replaceEntry { w with state := .announcing, announce := 1 } q
  | none => q

/-- The queue after the fixing of a frame fixed RUNNING (R172 to R174). -/
def fixRunning (q : List AlertEntry) : List AlertEntry :=
  match currentEntry q with
  | some c =>
    match c.state with
    | .active => fixActive c q
    | .announcing => fixAnnouncing c q
    | .releasing => fixFresh (removeEntry c q)
    | .waiting => q
  | none => fixFresh q

/-- The targets of a frame fixed ACTIVE: the services of its plan whose group mask meets the entry's (R176). -/
def resolveTargets (mask : Byte) (entries : List PlanEntry) : List U16 :=
  (entries.filter (fun e => e.mask &&& mask != 0)).map (·.sid)

/-- Whether two entry copies are of different entries. -/
def copyDiffers (a b : Option AlertEntry) : Bool :=
  a.map (fun e => (e.source, e.alertId)) != b.map (fun e => (e.source, e.alertId))

/-- The controller after fixing the alert phase of a frame of the given mode, with the entries of its plan (R171 to R176). -/
def AlertController.fix (mode : DevMode) (entries : List PlanEntry) (a : AlertController) : AlertController :=
  let q := if mode == .holding then fixHolding a.queue else fixRunning a.queue
  let c := if mode == .holding then none else currentEntry q
  let phase := (c.map (·.state.phase)).getD .none
  { a with
    queue := q, phase := phase, copy := c
    targets := match c with
      | some e => if phase == .active then resolveTargets e.mask entries else []
      | none => [] }

/-- AC fixes the alert phase of the next frame, whose mode and plan are already fixed; ALERT is raised when the phase
or the current entry differs from the frame before (R175). -/
def fixPhase (s : State) : State :=
  let a := s.ac.fix s.modes.mode s.entries
  raiseIf (a.phase != s.ac.phase || copyDiffers a.copy s.ac.copy) .alert { s with ac := a }

/-- The seconds that remaining frames r show as: floor(r × 6 / 125) (R140, R175). -/
def remainingSeconds (r : Nat) : Nat := r * 6 / 125

/-- Whether a queue entry is ANNOUNCING or ACTIVE (R180, R182). -/
def AlertController.takingOver (a : AlertController) : Bool :=
  a.queue.any (fun e => e.state == .announcing || e.state == .active)

/-- Whether the queue blocks a HOLD (R25): a level-3 entry that is not WAITING, or a level-3 insertion at this cut-off. -/
def AlertController.blocking (a : AlertController) : Bool :=
  a.level3Inserted || a.queue.any (fun e => e.level == 3 && e.state != .waiting)

end Sys2Proof.Machine
end

