-- ==== Sys2Proof/Machine/Labels.lean ====
section
/-! DEFINITION. The Label Engine (chapter 6): label records, instances, stepping, the label under takeover. -/

namespace Sys2Proof.Machine

/-- The moving part of a label in its reset state (R100). -/
def LabelRun.reset : LabelRun :=
  { position := 0, chars := none, serial := 0, toggle := false, segment := 0, passCount := 0, timer := 0
    stepPending := false }

/-- A label state in its reset state (R100). -/
def LabelState.reset : LabelState :=
  { buffer := none, revision := 0, received := none, read := .idle, run := .reset, slips := 0, alert := none }

/-! ### The record (R98, R99) -/

/-- The parameters and text brought into range (R99): lengths clamped in the order head, tail, body; the text is
the head, the body and the tail by the clamped lengths, each character replaced when it is outside the set. -/
def normaliseLabel (width head body tail gap step interval passes : Nat) (enabled reversed : Bool)
    (text : List Byte) : LabelParams :=
  let h := min head 192
  let t := min tail (192 - h)
  let b := min body (192 - h - t)
  { width := clamp 8 64 width, head := h, body := b, tail := t, gap := min gap 8
    stepSize := clamp 1 16 step, interval := clamp 1 255 interval, passes := clamp 1 4 passes
    enabled := enabled, reversed := reversed, text := (text.take (h + b + t)).map cleanChar }

/-- A label record's 210 bytes, normalised (R98, R99). -/
def labelOfRecord (b : List Byte) : LabelParams :=
  normaliseLabel (fieldAt b 3 1) (fieldAt b 4 1) (fieldAt b 5 1) (fieldAt b 6 1) (fieldAt b 7 1) (fieldAt b 8 1)
    (fieldAt b 9 1) (fieldAt b 10 1) ((byteAt b 2).getLsbD 0) ((byteAt b 2).getLsbD 1) (slice b 16 192)

/-! ### Instances (R105 to R107) -/

/-- A label scrolls when its window is at least one character wide and its body is wider (R105). -/
def LabelParams.scrolls (p : LabelParams) : Bool :=
  p.head + p.tail < p.width && p.width - p.head - p.tail < p.body

/-- The length of the cyclic body, B' (R106). -/
def LabelParams.cycle (p : LabelParams) : Nat := p.body + p.gap

/-- The head, the body and the tail. -/
def LabelParams.headText (p : LabelParams) : List Byte := p.text.take p.head
def LabelParams.bodyText (p : LabelParams) : List Byte := slice p.text p.head p.body
def LabelParams.tailText (p : LabelParams) : List Byte := slice p.text (p.head + p.body) p.tail

/-- Character j of the cyclic body: the body, then spaces (R106). -/
def LabelParams.cyclicChar (p : LabelParams) (j : Nat) : Byte := if j < p.body then byteAt p.bodyText j else 0x20

/-- The characters of the instance for a scroll position (R105, R106). -/
def LabelParams.instanceText (p : LabelParams) (position : Nat) : List Byte :=
  if p.scrolls then
    p.headText
      ++ (List.range (p.width - p.head - p.tail)).map (fun k => p.cyclicChar ((position + k) % p.cycle))
      ++ p.tailText
  else
    let t := (p.headText ++ p.bodyText ++ p.tailText).take p.width
    if t.isEmpty then [0x20] else t

/-- A build of an instance (R107). -/
def LabelRun.build (p : LabelParams) (r : LabelRun) : LabelRun :=
  { r with
    chars := some (p.instanceText r.position), serial := r.serial + 1, toggle := !r.toggle, segment := 0
    passCount := 0 }

/-- How many segments an instance has (R107). -/
def segmentCount (chars : List Byte) : Nat := (chars.length + 15) / 16

/-- The body of the segment at the segment index: the 2-byte segment header and the characters (R107, 12.4). -/
def LabelRun.segmentBody (r : LabelRun) (chars : List Byte) : List Byte :=
  BitVec.ofNat 8 (128 * r.toggle.toNat + 16 * r.segment + segmentCount chars)
    :: BitVec.ofNat 8 r.serial.toNat
    :: slice chars (16 * r.segment) 16

/-- The position one step on, forwards or towards the start of the text (R110). -/
def LabelParams.stepFrom (p : LabelParams) (position : Nat) : Nat :=
  if p.reversed then (position + p.cycle - p.stepSize % p.cycle) % p.cycle
  else (position + p.stepSize) % p.cycle

/-- A step of the window with the new instance (R110, R111). -/
def LabelRun.step (p : LabelParams) (r : LabelRun) : LabelRun :=
  LabelRun.build p { r with position := p.stepFrom r.position }

/-- Whether the instance is complete: sent whole Rp times (R108). -/
def LabelRun.complete (p : LabelParams) (r : LabelRun) : Bool := p.passes ≤ r.passCount

/-- The offered segment was taken (R108); a pending step is applied when the instance becomes complete (R111). -/
def LabelRun.take (p : LabelParams) (r : LabelRun) : LabelRun :=
  let count := segmentCount (r.chars.getD [])
  if r.segment + 1 < count then { r with segment := r.segment + 1 }
  else
    let r' := { r with segment := 0, passCount := min (r.passCount + 1) p.passes }
    if r'.complete p && r'.stepPending then LabelRun.step p { r' with stepPending := false } else r'

/-- The expiry of a step timer (R110, R114): it is set to I again; a complete instance steps; otherwise the step
becomes pending. -/
def LabelRun.expire (p : LabelParams) (r : LabelRun) : LabelRun :=
  if r.complete p then LabelRun.step p { r with timer := p.interval }
  else { r with timer := p.interval, stepPending := true }

/-- Whether an expiry loses a step: the instance is not complete and a step is already pending (R110). -/
def LabelRun.slips (p : LabelParams) (r : LabelRun) : Bool := !r.complete p && r.stepPending

/-- The expiry of the own label's step timer (R110), with its slip count. -/
def LabelState.expire (p : LabelParams) (l : LabelState) : LabelState :=
  { l with
    run := l.run.expire p
    slips := if l.run.slips p then satInc Config.max16 l.slips else l.slips }

/-- The step timer counts a packing (R109): only with a valid buffer, ENABLED, of a label that scrolls. -/
def LabelState.tick (l : LabelState) : LabelState :=
  match l.buffer with
  | some p =>
    if p.enabled && p.scrolls then
      if l.run.timer ≤ 1 then l.expire p else { l with run := { l.run with timer := l.run.timer - 1 } }
    else l
  | none => l

/-- The adoption of the received copy (R104). -/
def LabelState.adopt (c : LabelCopy) (l : LabelState) : LabelState :=
  { l with
    buffer := some c.params, revision := c.revision, received := none
    run := { LabelRun.build c.params { l.run with position := 0, stepPending := false } with
      timer := if c.params.scrolls then c.params.interval else 0 } }

/-- The own instance rebuilt at the frozen position after a takeover (R115). -/
def LabelState.rebuild (l : LabelState) : LabelState :=
  match l.buffer with
  | some p => { l with run := LabelRun.build p l.run }
  | none => l

/-- LE at the start of a packing in credit mode OWN: the resume after a takeover (R115), the adoption of a received
copy (R104), and otherwise the count of the step timer (R109). -/
def LabelState.startOwn (l : LabelState) : LabelState :=
  let resumed := l.alert.isSome
  let l := { l with alert := none }
  match l.received with
  | some c => l.adopt c
  | none => if resumed then l.rebuild.tick else l.tick

/-! ### The alert label (R113, R114) -/

/-- The parameters of an alert label built from its sources (R113). -/
def alertParams (head body : List Byte) (width interval : Nat) : LabelParams :=
  normaliseLabel width head.length body.length 0 2 2 interval 1 true false (head ++ body)

/-- The alert label built from its sources, its serial and toggle going on from those given (R113, R114). -/
def buildAlert (head body : List Byte) (width interval : Nat) (serial : U16) (toggle : Bool) : AlertLabel :=
  let p := alertParams head body width interval
  { headSource := head, bodySource := body, widthSource := width, params := p
    run := { LabelRun.build p { LabelRun.reset with serial := serial, toggle := toggle } with
      timer := if p.scrolls then p.interval else 0 } }

/-- The alert step timer counts a packing (R114). -/
def AlertLabel.tick (a : AlertLabel) : AlertLabel :=
  if a.params.scrolls then
    if a.run.timer ≤ 1 then { a with run := a.run.expire a.params }
    else { a with run := { a.run with timer := a.run.timer - 1 } }
  else a

/-- LE at the start of a packing in credit mode ALERT: the alert label is built, built afresh, or goes on (R113,
R114). The step interval is the one the label was built with. -/
def LabelState.startAlert (head body : List Byte) (interval : Nat) (l : LabelState) : LabelState :=
  let width := (l.buffer.map (·.width)).getD 16
  match l.alert with
  | none => { l with alert := some (buildAlert head body width interval 0 false) }
  | some a =>
    if a.headSource == head && a.bodySource == body && a.widthSource == width then
      { l with alert := some a.tick }
    else { l with alert := some (buildAlert head body width interval a.run.serial a.run.toggle) }

/-- The own label's expiry commanded alone (R110), for a label that R109 lets count, in a frame that is packed. DESIGN
CHOICE, log entry 30: the credit mode is the annex record's, that of the service's last packing. -/
def labelStepTimerExpiry (sid : U16) (s : State) : State :=
  updateWhenPacked sid (fun v =>
    match v.annex.mode, v.label.buffer with
    | .own, some p => if p.enabled && p.scrolls then { v with label := v.label.expire p } else v
    | _, _ => v) s

/-- The alert label's expiry commanded alone (R114), in a frame that is packed. DESIGN CHOICE, log entry 30: the credit mode is
the annex record's, that of the service's last packing. -/
def alertStepTimerExpiry (sid : U16) (s : State) : State :=
  updateWhenPacked sid (fun v =>
    match v.annex.mode, v.label.alert with
    | .alert, some a =>
      if a.params.scrolls then
        { v with label := { v.label with alert := some { a with run := a.run.expire a.params } } }
      else v
    | _, _ => v) s

/-! ### Polls and fetches (R101 to R103) -/

/-- The record read of a service's label. -/
def setLabelRead (sid : U16) (r : RecordRead) (s : State) : State :=
  updateService sid (fun v => { v with label := { v.label with read := r } }) s

/-- The poll that falls due at the end of a packing (R101): F mod 16 is the service index mod 16. -/
def pollLabel (index : Nat) (e : PlanEntry) (s : State) : State :=
  match s.serviceOf e.sid with
  | some v =>
    if e.labelAddr != 0 && s.assembling.toNat % 16 == index % 16 && v.label.read == .idle then
      enterRead (.labelPoll e.sid) e.labelAddr 16 (setLabelRead e.sid .polling s)
    else s
  | none => s

/-- The revision a poll is compared with (R102). -/
def LabelState.reference (l : LabelState) : U16 :=
  match l.received with
  | some c => c.revision
  | none => l.revision

/-- The completion of a poll (R102). -/
def labelPollDone (sid : U16) (o : TransferOutcome) (s : State) : State :=
  match s.serviceOf sid, s.entryOf sid, o with
  | some v, some e, .data bytes =>
    if (v.label.buffer.isNone && v.label.received.isNone) || u16At bytes 0 != v.label.reference then
      enterRead (.labelFetch sid) e.labelAddr 210 (setLabelRead sid .fetching s)
    else setLabelRead sid .idle s
  | _, _, _ => setLabelRead sid .idle s

/-- The completion of a fetch (R103). -/
def labelFetchDone (sid : U16) (o : TransferOutcome) (s : State) : State :=
  match o with
  | .data bytes =>
    updateService sid (fun v =>
      { v with label := { v.label with
          read := .idle
          received := if u16At bytes 0 == u16At bytes 208 then
              some { params := labelOfRecord bytes, revision := u16At bytes 0 }
            else v.label.received } }) s
  | .error => setLabelRead sid .idle s
  | .timeout => setLabelRead sid .idle s

end Sys2Proof.Machine
end

