-- ==== Sys2Proof/Machine/Pictures.lean ====
section
/-! DEFINITION. The Picture Engine (chapter 7): selections, staging, passes, aborts, the pictures under takeover. -/

namespace Sys2Proof.Machine

/-- A pass in its reset state (R119). -/
def PassRun.reset : PassRun := { toggle := false, offset := 0, segment := 0, crc := crcInit }

/-- A picture state in its reset state (R119). -/
def PictureState.reset : PictureState :=
  { carousel := .idle, selection := .idle, listSeen := none, count := 0, nextIndex := 0, skips := 0, entry := 0
    object := { addr := 0, len := 0, passes := 0, dwell := 0 }, passRevision := 0, passCount := 0
    pass := .reset, staging := [], refill := .idle, suspended := false, dwellTimer := 0, abort := none
    alert := none }

/-- The staging end: the object position from which the next refill reads (R119). -/
def PictureState.stagingEnd (p : PictureState) : Nat := p.pass.offset + p.staging.length

/-- The object bytes remaining in the pass (R119). -/
def PictureState.remaining (p : PictureState) : Nat := p.object.len - p.pass.offset

/-- A pass with its place at the beginning of the object. -/
def PassRun.rewound (r : PassRun) : PassRun := { r with offset := 0, segment := 0, crc := crcInit }

/-- A pass started (R123, step 3): the toggle flips and the place is the beginning. -/
def PassRun.started (r : PassRun) : PassRun := { r.rewound with toggle := !r.toggle }

/-- The own pass started (R123, step 3). -/
def PictureState.startPass (p : PictureState) : PictureState := { p with pass := p.pass.started, staging := [] }

/-- The entry after one, or 0 after the eighth (R126, R128). -/
def nextEntry (i : Nat) : Nat := if i + 1 = 8 then 0 else i + 1

/-- An update of a service's picture state. -/
def updatePicture (sid : U16) (f : PictureState → PictureState) (s : State) : State :=
  updateService sid (fun v => { v with picture := f v.picture }) s

/-- The picture state of a service. -/
def State.pictureOf (s : State) (sid : U16) : Option PictureState := (s.serviceOf sid).map (·.picture)

/-- The picture list address of a service. -/
def State.listAddr (s : State) (sid : U16) : Addr := ((s.entryOf sid).map (·.pictureAddr)).getD 0

/-- The address of an entry of a service's picture list (7.1). -/
def State.listEntryAddr (s : State) (sid : U16) (i : Nat) : Addr := addrPlus (s.listAddr sid) (16 + 32 * i)

/-! ### Requests at the frame start (R120) -/

/-- A selection begins with a read of the list header (R121). -/
def beginSelection (sid : U16) (s : State) : State :=
  enterRead (.listHeader sid) (s.listAddr sid) 16 (updatePicture sid (fun p => { p with selection := .header }) s)

/-- A refill begins with a read of the entry's record (R124). -/
def beginRefill (sid : U16) (p : PictureState) (s : State) : State :=
  enterRead (.refillRecord sid) (s.listEntryAddr sid p.entry) 32
    (updatePicture sid (fun p => { p with refill := .record }) s)

/-- What PE requests for one service at the frame start that opens an assembly period (R120). -/
def pictureRequest (sid : U16) (s : State) : State :=
  match s.pictureOf sid with
  | some p =>
    if s.listAddr sid == 0 || s.modes.mode != .running || s.isTarget sid then s
    else if p.carousel == .idle && p.selection == .idle then beginSelection sid s
    else if p.carousel == .sending && !p.suspended && p.refill == .idle
        && p.staging.length < Config.stagingSize && p.stagingEnd < p.object.len then beginRefill sid p s
    else s
  | none => s

/-- PE's requests at a frame start (R120). DESIGN CHOICE, log entry 8: they enter the list (R185) in the order of the services in the
plan, for R120 needs no order among them. -/
def pictureRequests (s : State) : State := (s.services.map (·.sid)).foldl (fun s sid => pictureRequest sid s) s

/-! ### Selections (R121 to R123) -/

/-- An empty walk ends the selection with no entry (R122). -/
def PictureState.emptyWalk (p : PictureState) : PictureState :=
  { p with selection := .idle, carousel := .dwelling, dwellTimer := 16 }

/-- The read of the entry at the next index (R121, R122). -/
def readEntry (sid : U16) (p : PictureState) (s : State) : State :=
  enterRead (.listEntry sid) (s.listEntryAddr sid p.nextIndex) 32
    (updatePicture sid (fun _ => { p with selection := .entry }) s)

/-- A list header taken (R118, R121): the walk restarts on a changed revision and when the list has shrunk. -/
def PictureState.takeHeader (bytes : List Byte) (p : PictureState) : PictureState :=
  let revision := u16At bytes 0
  let count := min 8 (fieldAt bytes 2 1)
  let next := if p.listSeen == some revision then p.nextIndex else 0
  { p with listSeen := some revision, count := count, nextIndex := if next < count then next else 0, skips := 0 }

/-- The completion of a list header read (R121). -/
def pictureHeaderDone (sid : U16) (o : TransferOutcome) (s : State) : State :=
  match s.pictureOf sid, o with
  | some p, .data bytes =>
    let p := p.takeHeader bytes
    if p.count == 0 then updatePicture sid (fun _ => p.emptyWalk) s else readEntry sid p s
  | _, _ => updatePicture sid (fun p => { p with selection := .idle }) s

/-- An entry of a picture list as PE reads it (R117). -/
structure ListEntry where
  object   : PictureObject
  revision : U16
  enabled  : Bool

/-- An entry's 32 bytes (12.6), its passes taken by R118. -/
def listEntryOf (b : List Byte) : ListEntry :=
  { object := { addr := addrAt b 0, len := fieldAt b 8 4, dwell := fieldAt b 12 2, passes := clamp 1 8 (fieldAt b 14 1) }
    revision := u16At b 16, enabled := (byteAt b 15).getLsbD 0 }

/-- An entry is eligible when ENABLED is set and its object length lies in 64..262,144 (R118). -/
def ListEntry.eligible (e : ListEntry) : Bool := e.enabled && 64 ≤ e.object.len && e.object.len ≤ 262144

/-- A pass begun by a selection takes the entry found at the next index (R123). -/
def PictureState.takeEntry (e : ListEntry) (p : PictureState) : PictureState :=
  PictureState.startPass
    { p with
      selection := .idle, entry := p.nextIndex, object := e.object, passRevision := e.revision, passCount := 0
      carousel := .sending }

/-- An entry that is not eligible is skipped (R122). -/
def PictureState.skipEntry (p : PictureState) : PictureState :=
  { p with skips := p.skips + 1, nextIndex := (p.nextIndex + 1) % p.count }

/-- The completion of an entry read of a selection (R122, R123). -/
def pictureEntryDone (sid : U16) (o : TransferOutcome) (s : State) : State :=
  match s.pictureOf sid, o with
  | some p, .data bytes =>
    let e := listEntryOf bytes
    if e.eligible then
      let p := p.takeEntry e
      beginRefill sid p (updatePicture sid (fun _ => p) s)
    else
      let p := p.skipEntry
      if p.count ≤ p.skips then updatePicture sid (fun _ => p.emptyWalk) s else readEntry sid p s
  | _, _ => updatePicture sid (fun p => { p with selection := .idle }) s

/-! ### Staging (R124 to R126) -/

/-- The abandonment of a pass (R126). -/
def PictureState.abandon (p : PictureState) : PictureState :=
  { p with
    abort := match p.abort with
      | some a => some a
      | none => some { entry := p.entry, toggle := p.pass.toggle, segments := BitVec.ofNat 8 p.pass.segment }
    staging := [], pass := p.pass.rewound, refill := .idle, passCount := 0, nextIndex := nextEntry p.entry
    carousel := .idle }

/-- How many bytes a refill reads (R124). -/
def PictureState.refillSize (p : PictureState) : Nat :=
  min (Config.stagingSize - p.staging.length) (p.object.len - p.stagingEnd)

/-- The completion of a refill's record read (R124). -/
def refillRecordDone (sid : U16) (o : TransferOutcome) (s : State) : State :=
  match s.pictureOf sid, o with
  | some p, .data bytes =>
    if u16At bytes 16 != p.passRevision then updatePicture sid (fun _ => p.abandon) s
    else if p.refillSize == 0 then updatePicture sid (fun p => { p with refill := .idle }) s
    else
      enterRead (.refillData sid) (addrPlus p.object.addr p.stagingEnd) p.refillSize
        (updatePicture sid (fun p => { p with refill := .data }) s)
  | _, _ => updatePicture sid (fun p => { p with refill := .idle }) s

/-- The completion of a refill's data read (R125). -/
def refillDataDone (sid : U16) (o : TransferOutcome) (s : State) : State :=
  match o with
  | .data bytes => updatePicture sid (fun p => { p with refill := .idle, staging := p.staging ++ bytes }) s
  | .error => updatePicture sid (fun p => { p with refill := .idle }) s
  | .timeout => updatePicture sid (fun p => { p with refill := .idle }) s

/-! ### Segments (R127, R128) -/

/-- The tag of a pass: entry index and toggle (12.4). -/
def tagByte (entry : Nat) (toggle : Bool) : Byte := BitVec.ofNat 8 (entry + 128 * toggle.toNat)

/-- The running CRC continued over the data of a segment and inverted (R127). -/
def PassRun.objectCrc (r : PassRun) (data : List Byte) : U16 := ~~~ crcFold r.crc data

/-- The body of a picture segment (R127). -/
def PassRun.segmentBody (r : PassRun) (entry : Nat) (data : List Byte) (last : Bool) : List Byte :=
  [tagByte entry r.toggle, BitVec.ofNat 8 ((r.segment == 0).toNat + 2 * last.toNat)]
    ++ be 2 r.segment ++ data ++ (if last then be16 (r.objectCrc data) else [])

/-- A pass advanced by a sent segment (R128). -/
def PassRun.advance (r : PassRun) (data : List Byte) : PassRun :=
  { r with offset := r.offset + data.length, segment := r.segment + 1, crc := crcFold r.crc data }

/-- The end of a pass (R128): a repeat pass of the same entry, or the dwell, or IDLE. A refill in progress is
withdrawn (R125). -/
def PictureState.endPass (p : PictureState) : PictureState :=
  if p.passCount + 1 < p.object.passes then
    PictureState.startPass { p with passCount := p.passCount + 1, refill := .idle }
  else
    { p with
      passCount := p.passCount + 1, refill := .idle, nextIndex := nextEntry p.entry
      carousel := if p.object.dwell == 0 then .idle else .dwelling
      dwellTimer := if p.object.dwell == 0 then p.dwellTimer else p.object.dwell }

/-- A sent PICTURE_SEG of d data bytes (R128). -/
def PictureState.sent (d : Nat) (last : Bool) (p : PictureState) : PictureState :=
  let p := { p with pass := p.pass.advance (p.staging.take d), staging := p.staging.drop d }
  if last then p.endPass else p

/-- A sent ALERT_PICTURE_SEG of d data bytes: passes repeat back to back (R133). -/
def AlertPicture.sent (d : Nat) (last : Bool) (a : AlertPicture) : AlertPicture :=
  let a := { a with pass := a.pass.advance (slice a.object a.pass.offset d) }
  if last then { a with pass := a.pass.started } else a

/-! ### The start of a packing (R129, R131 to R133) -/

/-- The dwell timer counts a packing (R129). -/
def PictureState.dwell (p : PictureState) : PictureState :=
  if p.carousel == .dwelling then
    { p with dwellTimer := p.dwellTimer - 1, carousel := if p.dwellTimer ≤ 1 then .idle else .dwelling }
  else p

/-- The dwell timer's expiry commanded alone (R129): a packing in credit mode ALERT, and a frame that is not packed, leave the timer
as it is. DESIGN CHOICE, log entry 30: the credit mode is the annex record's, that of the service's last packing. -/
def dwellTimerExpiry (sid : U16) (s : State) : State :=
  updateWhenPacked sid (fun v =>
    match v.annex.mode with
    | .own =>
      if v.picture.carousel == .dwelling then
        { v with picture := { v.picture with dwellTimer := 0, carousel := .idle } }
      else v
    | .alert => v) s

/-- PE at the start of a packing in credit mode OWN: the takeover ends (R132), then the dwell counts (R129). -/
def PictureState.startOwn (p : PictureState) : PictureState :=
  let p := { p with alert := none }
  let p := if p.suspended then PictureState.startPass { p with suspended := false } else p
  p.dwell

/-- The own pass suspended (R131): its refill is withdrawn and it carries no abort. -/
def PictureState.suspend (p : PictureState) : PictureState :=
  if p.carousel == .sending && !p.suspended then
    { p with staging := [], pass := p.pass.rewound, refill := .idle, suspended := true }
  else p

/-- The alert picture settled from the PICTURE region (R133). -/
def PictureState.settleAlert (r : Region) (p : PictureState) : PictureState :=
  match r.readable with
  | none => { p with alert := none }
  | some object =>
    match p.alert with
    | some a =>
      if a.revision == r.revision then p
      else { p with alert := some { revision := r.revision, object := object, pass := a.pass.started } }
    | none => { p with alert := some { revision := r.revision, object := object, pass := PassRun.reset.started } }

/-- PE at the start of a packing in credit mode ALERT (R131, R133). -/
def PictureState.startAlert (r : Region) (p : PictureState) : PictureState := p.suspend.settleAlert r

/-- The refill of a service that is IDLE in its state has no transfer left: a pass that ended in a packing has its
refill withdrawn (R125, R131). -/
def withdrawEndedRefill (before after : PictureState) (sid : U16) (s : State) : State :=
  if before.refill != .idle && after.refill == .idle then withdraw (Purpose.isRefillOf sid) s else s

end Sys2Proof.Machine
end

