-- ==== Sys2Proof/Machine/Annex.lean ====
section
/-! DEFINITION. The Annex Scheduler (chapter 5): packets, credit, readiness, the credited and the surplus pass, and
the packing of one field. -/

namespace Sys2Proof.Machine

/-- An annex record in its reset state, for an entry (R79). -/
def Annex.fresh (e : PlanEntry) : Annex :=
  { labelCredit := 0, labelQuantum := e.labelQuantum, pictureCredit := 0, pictureQuantum := e.pictureQuantum
    mode := .own, sequence := 0 }

/-- The packet kinds (R80). -/
inductive PacketKind where
  | labelSeg
  | pictureSeg
  | alertTextSeg
  | alertPictureSeg
  | pictureAbort
deriving DecidableEq, Repr

def PacketKind.code : PacketKind → Nat
  | .labelSeg => 1 | .pictureSeg => 2 | .alertTextSeg => 3 | .alertPictureSeg => 4 | .pictureAbort => 5

/-- A packet: its 3-byte header, its body and its CRC (R80). -/
def packetBytes (kind : PacketKind) (sequence : Byte) (body : List Byte) : List Byte :=
  let covered := BitVec.ofNat 8 kind.code :: BitVec.ofNat 8 body.length :: sequence :: body
  covered ++ be16 (crc16 covered)

/-- The size of a packet with a body of b bytes (R80). -/
def packetSize (b : Nat) : Nat := 5 + b

/-- A packing under way: the room R, the service with its credits and engine states, and the packets sent. -/
structure Packing where
  room : Nat
  svc  : Service
  sent : List Byte

/-! ### Readiness and offers (R87, R88, R108) -/

/-- The offer of the label turn: the kind and body of the engine's next segment, when the stream is ready. -/
def Service.labelOffer (v : Service) : Option (PacketKind × List Byte) :=
  match v.annex.mode with
  | .own =>
    match v.label.buffer, v.label.run.chars with
    | some p, some chars => if p.enabled then some (.labelSeg, v.label.run.segmentBody chars) else none
    | _, _ => none
  | .alert =>
    match v.label.alert with
    | some a => a.run.chars.map (fun chars => (.alertTextSeg, a.run.segmentBody chars))
    | none => none

/-- The own picture stream's staged bytes are enough to be ready (R87). -/
def PictureState.stagedReady (p : PictureState) : Bool :=
  p.carousel == .sending && min 16 p.remaining ≤ p.staging.length

/-- Whether the picture stream is ready (R87, R88). -/
def Service.pictureReady (v : Service) : Bool :=
  match v.annex.mode with
  | .own => v.picture.abort.isSome || v.picture.stagedReady
  | .alert => (v.picture.alert.map (fun a => !a.object.isEmpty)).getD false

/-- The label segment offered was taken (R92, R108). -/
def Service.labelTaken (v : Service) : Service :=
  match v.annex.mode with
  | .own =>
    match v.label.buffer with
    | some p => { v with label := { v.label with run := v.label.run.take p } }
    | none => v
  | .alert =>
    { v with label := { v.label with
        alert := v.label.alert.map (fun a => { a with run := a.run.take a.params }) } }

/-! ### Turns (R89 to R93) -/

/-- A packet sent: room, credit and sequence number (R81, R92, R93). label says which counter pays; a counter goes
down to 0 and no further. -/
def Packing.send (kind : PacketKind) (body : List Byte) (label : Bool) (k : Packing) : Packing :=
  let cost := 16 * packetSize body.length
  let a := k.svc.annex
  { room := k.room - packetSize body.length
    sent := k.sent ++ packetBytes kind a.sequence body
    svc := { k.svc with annex :=
      if label then { a with labelCredit := a.labelCredit - cost, sequence := a.sequence + 1 }
      else { a with pictureCredit := a.pictureCredit - cost, sequence := a.sequence + 1 } } }

/-- Whether a packet with a body of b bytes may go: it fits the room, and in the credited pass the credit too. -/
def mayGo (credited : Bool) (room credit b : Nat) : Bool :=
  packetSize b ≤ room && (!credited || 16 * packetSize b ≤ credit)

/-- The label stream's turn (R89, R93): a segment is sent whole or not at all. -/
def Packing.labelTurn (credited : Bool) (k : Packing) : Packing × Bool :=
  match k.svc.labelOffer with
  | some (kind, body) =>
    if mayGo credited k.room k.svc.annex.labelCredit body.length then
      let k := k.send kind body true
      ({ k with svc := k.svc.labelTaken }, true)
    else (k, false)
  | none => (k, false)

/-- The body bound B of a picture segment (R90, R93). -/
def bodyBound (credited : Bool) (room credit : Nat) : Nat :=
  if credited then min 244 (min (room - 5) (credit / 16 - 5)) else min 244 (room - 5)

/-- The cut of a segment: its data count D, and whether it is the last of its pass; none when nothing is sent (R90). -/
def cutSegment (bound staged rem : Nat) : Option (Nat × Bool) :=
  if staged = rem ∧ rem + 6 ≤ bound then some (rem, true)
  else
    let d := min staged (min (bound - 4) (rem - 1))
    if 16 ≤ d then some (d, false) else none

/-- The picture turn in credit mode OWN (R90, R91): a pending abort goes before any segment. -/
def Packing.ownPictureTurn (credited : Bool) (k : Packing) : Packing × Bool :=
  let p := k.svc.picture
  match p.abort with
  | some a =>
    if mayGo credited k.room k.svc.annex.pictureCredit 2 then
      let k := k.send .pictureAbort [tagByte a.entry a.toggle, a.segments] false
      ({ k with svc := { k.svc with picture := { k.svc.picture with abort := none } } }, true)
    else (k, false)
  | none =>
    if p.stagedReady then
      match cutSegment (bodyBound credited k.room k.svc.annex.pictureCredit) p.staging.length p.remaining with
      | some (d, last) =>
        let k := k.send .pictureSeg (p.pass.segmentBody p.entry (p.staging.take d) last) false
        ({ k with svc := { k.svc with picture := k.svc.picture.sent d last } }, true)
      | none => (k, false)
    else (k, false)

/-- The picture turn in credit mode ALERT (R90, R133): the object is on chip, so all that remains is staged. -/
def Packing.alertPictureTurn (credited : Bool) (k : Packing) : Packing × Bool :=
  match k.svc.picture.alert with
  | some a =>
    if a.object.isEmpty then (k, false)
    else
      let rem := a.object.length - a.pass.offset
      match cutSegment (bodyBound credited k.room k.svc.annex.pictureCredit) rem rem with
      | some (d, last) =>
        let k := k.send .alertPictureSeg (a.pass.segmentBody 0 (slice a.object a.pass.offset d) last) false
        ({ k with svc := { k.svc with picture := { k.svc.picture with alert := some (a.sent d last) } } }, true)
      | none => (k, false)
  | none => (k, false)

/-- The picture stream's turn (R95). -/
def Packing.pictureTurn (credited : Bool) (k : Packing) : Packing × Bool :=
  match k.svc.annex.mode with
  | .own => k.ownPictureTurn credited
  | .alert => k.alertPictureTurn credited

/-- The rounds of a pass: the label turn, then the picture turn, until a round in which neither sent (5.6, 5.7). The
number bounds the rounds; every round that sends makes the room smaller. -/
def Packing.rounds (credited : Bool) : Nat → Packing → Packing
  | 0, k => k
  | n + 1, k =>
    let (k1, label) := k.labelTurn credited
    let (k2, picture) := k1.pictureTurn credited
    if label || picture then Packing.rounds credited n k2 else k2

/-- The credited pass and then the surplus pass. -/
def Packing.passes (k : Packing) : Packing :=
  let k := Packing.rounds true (k.room + 1) k
  Packing.rounds false (k.room + 1) k

/-! ### Credit (R84 to R86) -/

/-- The grant and the hold-down of a counter (R86). -/
def grantCredit (credit quantum : Nat) (ready : Bool) : Nat :=
  let k := min (credit + quantum) (8 * quantum)
  if ready then k else min k quantum

/-- The credit mode settled for a packing: a change of mode sets both counters to 0 (R84). -/
def Annex.settleMode (needed : CreditMode) (a : Annex) : Annex :=
  if a.mode = needed then a else { a with labelCredit := 0, pictureCredit := 0, mode := needed }

/-- The credit stage of a packing (R85, R86). -/
def Service.credit (labelQ pictureQ : Nat) (v : Service) : Service :=
  { v with annex := { v.annex with
      labelCredit := grantCredit v.annex.labelCredit labelQ v.labelOffer.isSome
      labelQuantum := labelQ
      pictureCredit := grantCredit v.annex.pictureCredit pictureQ v.pictureReady
      pictureQuantum := pictureQ } }

/-! ### The packing of a field (R82, R83, R94) -/

/-- What a packing reads from the other blocks: whether the service is a target of an ACTIVE frame, the alert quantum,
the sources of the alert label, and the PICTURE region. -/
structure PackInput where
  target       : Bool
  alertQuantum : Nat
  alertHead    : List Byte
  alertBody    : List Byte
  stepInterval : Nat
  region       : Region

/-- The engines at the start of a packing (R104, R109, R113 to R115, R129, R131 to R133). DESIGN CHOICE, log entry 27: a target whose
picture list address is 0 carries the alert picture as R133 settles it, for R119 keeps the picture state of such a service in
reset, and R133 excepts no target. -/
def Service.startPacking (i : PackInput) (v : Service) : Service :=
  if i.target then
    { v with
      label := v.label.startAlert i.alertHead i.alertBody i.stepInterval
      picture := v.picture.startAlert i.region }
  else { v with label := v.label.startOwn, picture := v.picture.startOwn }

/-- The service with mode, engines and credit as the two passes find them (R82, steps 2 and 3). -/
def Service.prepared (i : PackInput) (e : PlanEntry) (v : Service) : Service :=
  let v := { v with annex := v.annex.settleMode (if i.target then .alert else .own) }
  (v.startPacking i).credit (if i.target then i.alertQuantum else e.labelQuantum) e.pictureQuantum

/-- The packing of a field (R82): the packing after both passes, its room being the fill. -/
def packField (i : PackInput) (e : PlanEntry) (audio : List Byte) (permitted : Bool) (v : Service) : Packing :=
  Packing.passes
    { room := if permitted then 32 * e.cells - 2 - audio.length else 0, svc := v.prepared i e, sent := [] }

/-- A service's field: L, the audio, the packets and the fill (R7). -/
def fieldBytes (audio : List Byte) (k : Packing) : List Byte :=
  be 2 audio.length ++ audio ++ k.sent ++ zeros k.room

/-- What a packing reads, in the frame being assembled. -/
def State.packInput (s : State) (sid : U16) : PackInput :=
  { target := s.isTarget sid
    alertQuantum := (s.cp.accepted.map (·.alertQuantum)).getD 0
    alertHead := (s.cp.accepted.map (·.alertPrefix)).getD []
    alertBody := (s.ac.copy.map (·.text)).getD []
    stepInterval := (s.cp.accepted.map (·.stepInterval)).getD 1
    region := s.ss.picture }

end Sys2Proof.Machine
end

