-- ==== Sys2Proof/Machine/Contribution.lean ====
section
/-! DEFINITION. The Contribution Reader (chapter 4): reading slots, classifying them, and the decision of a
service's audio. The takeover's alert audio (R77, R177) stands here too. -/

namespace Sys2Proof.Machine

/-- A contribution record in its reset state; before is the serial of the frame before the first whose plan
carries the service (R58). -/
def Contribution.fresh (before : U32) : Contribution :=
  { substitution := .normal, lateRun := 0, lastLate := .none, lateTotal := 0, taken := low16 before
    repeatBuffer := none }

/-- A slot-read record at the start of an assembly period (R60). -/
def SlotRead.fresh : SlotRead := { phase := .idle, outcome := .none, held := none, buffer := [] }

/-- The address of a slot: the base, the frame's full serial modulo the depth, and the stride (R39, R59, R76). -/
def slotAddress (base : Addr) (depth payload : Nat) (frame : U32) : Addr :=
  addrPlus base ((frame.toNat % depth) * (32 + payload))

/-- The largest audio length that fits a field of C cells (R59). -/
def lengthMax (cells : Nat) : Nat := 32 * cells - 2

/-- What a read sequence needs to know of its slot: its address, the length over which it is OVERLONG. -/
structure SlotPlace where
  addr  : Addr
  limit : Nat

/-- Where the slot of the frame being assembled lies (R59, R76). -/
def State.slotPlace (s : State) : SlotKey → Option SlotPlace
  | .service sid => (s.entryOf sid).map (fun e =>
      { addr := slotAddress e.ringBase e.ringDepth (32 * e.cells) s.assembling, limit := lengthMax e.cells })
  | .alert => s.alertSlot.map (fun a =>
      { addr := slotAddress a.base a.depth a.size s.assembling, limit := a.size })

/-- The slot-read record of a service or of the alert ring. -/
def State.slotRead (s : State) : SlotKey → Option SlotRead
  | .service sid => (s.serviceOf sid).bind (·.slot)
  | .alert => s.alertSlot.map (·.slot)

/-- A slot-read record replaced. -/
def setSlotRead (key : SlotKey) (r : SlotRead) (s : State) : State :=
  match key with
  | .service sid => updateService sid (fun v => { v with slot := some r }) s
  | .alert => { s with alertSlot := s.alertSlot.map (fun a => { a with slot := r }) }

/-- A poll of a slot whose record is IDLE: the header read of five bytes is requested (R59, R61). -/
def pollSlot (key : SlotKey) (s : State) : State :=
  match s.slotRead key, s.slotPlace key with
  | some r, some p =>
    if r.phase == .idle then
      enterRead (.slotHeader key) p.addr 5 (setSlotRead key { r with phase := .header } s)
    else s
  | _, _ => s

/-- A service is polled at offset 0, and at the later offsets unless it is DORMANT (R61). -/
def polledAt (first : Bool) (v : Service) : Bool := first || v.contribution.substitution != .dormant

/-- The polls of a poll offset (R61, R76). DESIGN CHOICE, log entry 8: their requests enter the list (R185) in the order of the services
in the plan, the alert slot's last, for R61 leaves them unordered among themselves. -/
def pollSlots (first : Bool) (s : State) : State :=
  pollSlot .alert (((s.services.filter (polledAt first)).map (·.sid)).foldl
    (fun s sid => pollSlot (.service sid) s) s)

/-- The alert slot-read record kept for the frame whose assembly period begins: when it is fixed ACTIVE and the
preference last accepted is RING_THEN_LOOP (R76). -/
def State.alertSlotAtStart (s : State) : Option AlertSlot :=
  match s.cp.accepted with
  | some v =>
    if s.modes.mode == .running && s.ac.phase == .active && !v.loopOnly then
      some { slot := .fresh, base := v.ringBase, depth := v.ringDepth, size := v.slotSize }
    else none
  | none => none

/-- The slot-read records at the start of an assembly period, and the polls of offset 0. A frame fixed HOLDING has
none (R60, R74). -/
def beginSlotReads (s : State) : State :=
  if s.modes.mode == .running then
    pollSlots true { s with
      services := s.services.map (fun v => { v with slot := some .fresh })
      alertSlot := s.alertSlotAtStart }
  else { s with services := s.services.map (fun v => { v with slot := none }), alertSlot := none }

/-! ### The read sequence (R62 to R65) -/

/-- The fields of a slot header, from its first five bytes (R59). -/
def slotHeaderOf (b : List Byte) : SlotHeader :=
  { stamp := u16At b 0, len := fieldAt b 2 2, silent := (byteAt b 4).getLsbD 0, noAnnex := (byteAt b 4).getLsbD 1 }

/-- A sequence that ends at a bus error or a timeout (R65). -/
def slotFault (key : SlotKey) (s : State) : State :=
  setSlotRead key { phase := .idle, outcome := .fault, held := none, buffer := [] } s

/-- The confirm read: the header's five bytes again (4.2). -/
def requestConfirm (key : SlotKey) (p : SlotPlace) (r : SlotRead) (s : State) : State :=
  enterRead (.slotConfirm key) p.addr 5 (setSlotRead key { r with phase := .confirm } s)

/-- The next payload burst: up to 256 of the bytes not yet received (R63). -/
def requestBurst (key : SlotKey) (p : SlotPlace) (len : Nat) (r : SlotRead) (s : State) : State :=
  enterRead (.slotPayload key) (addrPlus p.addr (32 + r.buffer.length)) (min 256 (len - r.buffer.length))
    (setSlotRead key { r with phase := .fetch } s)

/-- The completion of a header read (R62). -/
def slotHeaderDone (key : SlotKey) (o : TransferOutcome) (s : State) : State :=
  match s.slotRead key, s.slotPlace key with
  | some r, some p =>
    match o with
    | .data bytes =>
      let h := slotHeaderOf bytes
      if h.stamp != low16 s.assembling then
        setSlotRead key { r with phase := .idle, outcome := .absent } s
      else if h.silent then requestConfirm key p { r with held := some h, buffer := [] } s
      else if p.limit < h.len then setSlotRead key { r with phase := .overlong } s
      else if h.len == 0 then requestConfirm key p { r with held := some h, buffer := [] } s
      else requestBurst key p h.len { r with held := some h, buffer := [] } s
    | .error => slotFault key s
    | .timeout => slotFault key s
  | _, _ => s

/-- The completion of a payload burst (R63). -/
def payloadBurstDone (key : SlotKey) (o : TransferOutcome) (s : State) : State :=
  match s.slotRead key, s.slotPlace key with
  | some r, some p =>
    match o with
    | .data bytes =>
      let r := { r with buffer := r.buffer ++ bytes }
      let len := (r.held.map (·.len)).getD 0
      if r.buffer.length < len then requestBurst key p len r s else requestConfirm key p r s
    | .error => slotFault key s
    | .timeout => slotFault key s
  | _, _ => s

/-- The completion of a confirm read (R64). -/
def confirmDone (key : SlotKey) (o : TransferOutcome) (s : State) : State :=
  match s.slotRead key with
  | some r =>
    match o with
    | .data bytes =>
      if r.held == some (slotHeaderOf bytes) then setSlotRead key { r with phase := .good } s
      else setSlotRead key { phase := .idle, outcome := .torn, held := none, buffer := [] } s
    | .error => slotFault key s
    | .timeout => slotFault key s
  | none => s

/-! ### The cut-off (R66 to R77) -/

/-- A slot outcome (R67). -/
inductive SlotResult where
  | good (header : SlotHeader) (bytes : List Byte)
  | goodSilent (header : SlotHeader)
  | late (reason : LateReason)
deriving DecidableEq, Repr

/-- The slot outcome of a slot-read record at the cut-off (R67). A GOOD slot's audio is the L bytes of the fetch buffer (R69). -/
def SlotRead.result (r : SlotRead) : SlotResult :=
  match r.phase, r.held with
  | .good, some h => if h.silent then .goodSilent h else .good h (r.buffer.take h.len)
  | .good, none => .late .absent
  | .overlong, _ => .late .overlong
  | .header, _ => .late .slow
  | .fetch, _ => .late .slow
  | .confirm, _ => .late .slow
  | .idle, _ =>
    match r.outcome with
    | .none => .late .absent
    | .absent => .late .absent
    | .torn => .late .torn
    | .fault => .late .fault

/-- The rung of the ladder for a late frame's count n (R71). -/
def rungOf (n : Nat) : Substitution := if n ≤ 3 then .repeating else if n ≤ 250 then .silent else .dormant

/-- The silence frame when it is usable for a field: the SILENCE region VALID and no longer than Lmax (R70). -/
def usableSilence (silence : Option (List Byte)) (limit : Nat) : List Byte :=
  match silence with
  | some b => if b.length ≤ limit then b else []
  | none => []

/-- What a decision gives: the record after it, the audio placed, whether annex packets are permitted, and whether
the frame was late. -/
structure Decision where
  record    : Contribution
  audio     : List Byte
  permitted : Bool
  late      : Bool

/-- The decision of a service's own audio for a frame (R69 to R73). -/
def decideAudio (c : Contribution) (result : SlotResult) (silence : Option (List Byte)) (limit : Nat) (frame : U32) :
    Decision :=
  match result with
  | .good h bytes =>
    { record := { c with substitution := .normal, lateRun := 0, repeatBuffer := some bytes, taken := low16 frame }
      audio := bytes, permitted := !h.noAnnex, late := false }
  | .goodSilent h =>
    { record := { c with substitution := .normal, lateRun := 0, taken := low16 frame }
      audio := usableSilence silence limit, permitted := !h.noAnnex, late := false }
  | .late reason =>
    let n := satInc Config.max16 c.lateRun
    let c' : Contribution :=
      { c with
        substitution := rungOf n, lateRun := n, lastLate := reason
        lateTotal := satInc Config.max32 c.lateTotal, taken := low16 frame }
    let audio :=
      match rungOf n with
      | .repeating => match c.repeatBuffer with
        | some b => b
        | none => usableSilence silence limit
      | .silent => usableSilence silence limit
      | .normal => []
      | .dormant => []
    { record := c', audio := audio, permitted := true, late := true }

/-- What CR hands AS in place of the own decision for a target of an ACTIVE frame (R75). -/
def takeoverAudio (alert : AlertAudio) (limit : Nat) (own : List Byte) : List Byte :=
  match alert with
  | .present bytes => if bytes.length ≤ limit then bytes else own
  | .absent => []

/-- The frames of a LOOP region's bytes, walked from byte 0 (R179, R181): none when a frame length is 0 or over
3,838, when a frame or a length field is cut by the end, or when there are more than the given number. -/
def walkLoop : Nat → List Byte → Option (List (List Byte))
  | _, [] => some []
  | 0, _ :: _ => none
  | _ + 1, [_] => none
  | k + 1, a :: b :: rest =>
    let n := beNat [a, b]
    if n == 0 || 3838 < n || rest.length < n then none
    else (walkLoop k (rest.drop n)).map (fun fs => rest.take n :: fs)

/-- The loop frame at the loop index of a VALID LOOP region (R179). -/
def StandbyStore.loopFrame (t : StandbyStore) : Option (List Byte) :=
  match t.loop.readable with
  | some b => ((walkLoop 16 b).getD [])[t.loopIndex]?
  | none => none

/-- The choice of the alert audio of a frame fixed ACTIVE (R177). An alert record is kept only when the preference
is RING_THEN_LOOP, so its outcome decides the first two cases. A use of the loop advances the loop index. -/
def selectAlertAudio (s : State) : State :=
  match s.alertSlot.map (fun (a : AlertSlot) => a.slot.result) with
  | some (.good _ bytes) => { s with alertAudio := .present bytes }
  | some (.goodSilent _) => { s with alertAudio := .present (s.ss.silence.readable.getD []) }
  | _ =>
    match s.ss.loopFrame with
    | some bytes =>
      { s with
        alertAudio := .present bytes
        ss := { s.ss with loopIndex := if s.ss.loopIndex + 1 < s.ss.frameCount then s.ss.loopIndex + 1 else 0 } }
    | none => { s with alertAudio := .absent }

end Sys2Proof.Machine
end

