-- ==== Sys2Proof/Machine/Plans.lean ====
section
/-! DEFINITION. The Plan Manager (chapter 3): loading and validation, plan requests, fixing the plan one frame ahead,
and the carry-over of services at a switch. -/

namespace Sys2Proof.Machine

/-! ### Plans in memory (R37, R38, 12.6) -/

/-- The fields read from a plan header (R37). -/
def planHeaderOf (b : List Byte) : PlanHeader :=
  { number := byteAt b 0, count := fieldAt b 1 1, check := u16At b 2 }

/-- How many entries are read (R37). -/
def PlanHeader.toRead (h : PlanHeader) : Nat := min h.count 24

/-- An entry's 64 bytes as read (R38). -/
def planEntryOf (b : List Byte) : PlanEntry :=
  { subId := byteAt b 0, cells := fieldAt b 1 1, start := fieldAt b 2 2, sid := u16At b 4, mask := byteAt b 6
    restart := (byteAt b 7).getLsbD 0, ringBase := addrAt b 8, ringDepth := fieldAt b 13 1
    labelQuantum := fieldAt b 14 2, pictureQuantum := fieldAt b 16 2, labelAddr := addrAt b 20
    pictureAddr := addrAt b 28, name := slice b 48 16 }

/-- An entry normalised as it is stored (R43). -/
def PlanEntry.normalised (e : PlanEntry) : PlanEntry :=
  { e with
    labelQuantum := min e.labelQuantum 16383, pictureQuantum := min e.pictureQuantum 16383
    name := e.name.map cleanChar }

/-- The entries in n × 64 bytes. -/
def planEntriesOf (n : Nat) (bytes : List Byte) : List PlanEntry :=
  (List.range n).map (fun i => planEntryOf (slice bytes (64 * i) 64))

/-! ### Validation (R42) -/

/-- An entry fails RANGE (R42). -/
def PlanEntry.outOfRange (e : PlanEntry) : Bool :=
  e.subId.toNat < 1 || 63 < e.subId.toNat || e.cells < 4 || 120 < e.cells || 600 < e.start + e.cells

/-- Two neighbouring entries fail OVERLAP (R42). -/
def PlanEntry.overlaps (a b : PlanEntry) : Bool := b.start ≤ a.start || b.start < a.start + a.cells

/-- The entries are in ascending order without overlap (R42). -/
def inOrder : List PlanEntry → Bool
  | [] => true
  | [_] => true
  | a :: b :: rest => !a.overlaps b && inOrder (b :: rest)

/-- No sub-channel id and no service id stands twice (R42). -/
def noDuplicate (es : List PlanEntry) : Bool :=
  decide ((es.map (·.subId)).Nodup) && decide ((es.map (·.sid)).Nodup)

/-- An entry fails RING (R42). -/
def PlanEntry.badRing (e : PlanEntry) : Bool :=
  e.ringDepth < 2 || 64 < e.ringDepth || e.ringBase.toNat % 64 != 0

/-- Validation of a loaded plan: the reason of the first check that fails, or none (R42). FAULT is judged by the load. -/
def planFailure (h : PlanHeader) (bytes : List Byte) : Option PlanResult :=
  let es := planEntriesOf h.toRead bytes
  if crc16 bytes != h.check then some .check
  else if h.count == 0 || 24 < h.count then some .count
  else if es.any (·.outOfRange) then some .range
  else if !inOrder es then some .overlap
  else if !noDuplicate es then some .duplicate
  else if es.any (·.badRing) then some .ring
  else none

/-- The plan that a load stores (R40, R43). -/
def planOf (h : PlanHeader) (addr : Addr) (bytes : List Byte) : Plan :=
  { number := h.number, entries := (planEntriesOf h.toRead bytes).map (·.normalised), addr := addr }

/-! ### Loads (R41) -/

/-- A result recorded, with PLAN raised (R32). -/
def planResult (r : PlanResult) (s : State) : State :=
  raise .plan { s with pm := { s.pm with lastResult := r } }

/-- A load begins: its target bank is FILLING and the header is requested (R41). -/
def beginPlanLoad (toActive : Bool) (addr : Addr) (s : State) : State :=
  let l : PlanLoad := { toActive := toActive, addr := addr, header := none, bytes := [] }
  let pm := { s.pm with load := some l }
  enterRead .planLoad addr 16 { s with pm :=
    if toActive then { pm with active := .filling } else { pm with staged := .filling, state := .loading } }

/-- A load withdrawn (R41): no result. -/
def withdrawPlanLoad (s : State) : State :=
  withdraw (· == .planLoad) { s with pm := { s.pm with load := none } }

/-- The next burst of entries: up to four, in ascending order (R41). -/
def requestEntries (l : PlanLoad) (h : PlanHeader) (s : State) : State :=
  enterRead .planLoad (addrPlus l.addr (16 + l.bytes.length)) (min 256 (64 * h.toRead - l.bytes.length))
    { s with pm := { s.pm with load := some l } }

/-- The outcome of a load into STAGED (R44). -/
def stagedOutcome (outcome : Except PlanResult Plan) (s : State) : State :=
  match outcome with
  | .ok p => planResult .accepted { s with pm := { s.pm with staged := .ready p, state := .idle, load := none } }
  | .error r => planResult r { s with pm := { s.pm with staged := .empty, state := .idle, load := none } }

/-! ### Plan requests (R45 to R48) -/

/-- A superseded plan, load or request: the result, the count and PLAN (R45 to R48). -/
def planSuperseded (s : State) : State :=
  planResult .superseded { s with pm := { s.pm with supersedes := s.pm.supersedes + 1 } }

/-- A plan request taken in IDLE (R45). -/
def planRequestIdle (addr : Addr) (s : State) : State :=
  let empty (s : State) : State := { s with pm := { s.pm with staged := .empty } }
  if addr == 0 then
    if s.pm.staged.isReady then planResult .cancelled (empty s) else s
  else
    beginPlanLoad false addr (if s.pm.staged.isReady then planSuperseded (empty s) else s)

/-- A plan request taken in LOADING (R46). -/
def planRequestLoading (addr : Addr) (s : State) : State :=
  let s := withdrawPlanLoad s
  let s := { s with pm := { s.pm with staged := .empty } }
  if addr == 0 then planResult .cancelled { s with pm := { s.pm with state := .idle } }
  else beginPlanLoad false addr (planSuperseded s)

/-- A plan request taken in COUNTDOWN (R47): the window is open while the countdown fixed is 5 or more. -/
def planRequestCountdown (addr : Addr) (s : State) : State :=
  if 5 ≤ s.pm.countdown then { s with pm := { s.pm with state := .cancelling, remembered := some addr } }
  else
    let s := if s.pm.held.isSome then planSuperseded s else s
    { s with pm := { s.pm with held := some addr } }

/-- A plan request taken in CANCELLING (R48). -/
def planRequestCancelling (addr : Addr) (s : State) : State :=
  let s := planSuperseded s
  { s with pm := { s.pm with remembered := some addr } }

/-- A plan request is handled by the plan state (R45 to R48). -/
def planRequest (addr : Addr) (s : State) : State :=
  match s.pm.state with
  | .idle => planRequestIdle addr s
  | .loading => planRequestLoading addr s
  | .countdown => planRequestCountdown addr s
  | .cancelling => planRequestCancelling addr s

/-! ### The carry-over (R54 to R57) -/

/-- The state of a service that begins with the reset state of every block (R58, R79, R100, R119). -/
def Service.fresh (e : PlanEntry) (before : U32) : Service :=
  { sid := e.sid, contribution := .fresh before, slot := none, annex := .fresh e, label := .reset, picture := .reset }

/-- The contribution state of a matched service (R55). -/
def Contribution.carried (old new : PlanEntry) (c : Contribution) : Contribution :=
  if old.ringBase = new.ringBase then
    { c with repeatBuffer := match c.repeatBuffer with
      | some b => if lengthMax new.cells < b.length then none else some b
      | none => none }
  else { c with substitution := .normal, lateRun := 0, repeatBuffer := none }

/-- The annex record of a matched service (R96). -/
def Annex.carried (new : PlanEntry) (a : Annex) : Annex :=
  let a := { a with
    pictureCredit := min a.pictureCredit (8 * new.pictureQuantum), pictureQuantum := new.pictureQuantum }
  match a.mode with
  | .own => { a with labelCredit := min a.labelCredit (8 * new.labelQuantum), labelQuantum := new.labelQuantum }
  | .alert => a

/-- The state of a matched service carried over to its new entry (R55, R56). Its slot-read record has ended at this cut-off (R60). -/
def Service.carried (old new : PlanEntry) (v : Service) : Service :=
  { v with
    slot := none
    contribution := v.contribution.carried old new
    annex := v.annex.carried new
    label := if old.labelAddr = new.labelAddr then v.label else .reset
    picture := if old.pictureAddr = new.pictureAddr then v.picture else .reset }

/-- The service of a new entry after the switch (R54). -/
def carryService (oldEntries : List PlanEntry) (services : List Service) (before : U32) (e : PlanEntry) : Service :=
  match oldEntries.find? (·.sid == e.sid), services.find? (·.sid == e.sid) with
  | some old, some v => if e.restart then .fresh e before else v.carried old e
  | _, _ => .fresh e before

/-- The transfers withdrawn at a switch (R57): all those of a service dropped or restarted, and those of the parts that
are reset of a matched one. -/
def withdrawnAtSwitch (oldEntries newEntries : List PlanEntry) (p : Purpose) : Bool :=
  match p.service? with
  | none => false
  | some sid =>
    match newEntries.find? (·.sid == sid), oldEntries.find? (·.sid == sid) with
    | some new, some old =>
      new.restart || (p.isLabelOf sid && old.labelAddr != new.labelAddr)
        || (p.isPictureOf sid && old.pictureAddr != new.pictureAddr)
    | _, _ => true

/-- The carry-over at a switch: the services of the new plan in its order (R54 to R57). before is the serial before the
switch serial. -/
def carryOver (oldEntries newEntries : List PlanEntry) (before : U32) (s : State) : State :=
  withdraw (withdrawnAtSwitch oldEntries newEntries)
    { s with services := newEntries.map (carryService oldEntries s.services before) }

/-! ### Fixing the plan one frame ahead (R49 to R53) -/

/-- The number of the plan in a bank, 0 when it holds none. -/
def Bank.number (b : Bank) : Byte := (b.plan?.map (·.number)).getD 0

/-- A frame fixed with the ACTIVE plan and countdown 0 (R49). -/
def fixUnchanged (cancelled : Bool) (s : State) : State :=
  { s with pm := { s.pm with countdown := 0, nextNumber := s.pm.active.number, cancelled := cancelled } }

/-- A countdown begins (R50): F+1 carries 16 and the switch serial is F+17. -/
def beginCountdown (s : State) : State :=
  { s with pm := { s.pm with
      countdown := 16, nextNumber := s.pm.staged.number, cancelled := false, state := .countdown
      switchSerial := s.assembling + 17 } }

/-- The switch (R51): F+1 is the switch frame. -/
def switchPlan (s : State) : State :=
  let old := s.entries
  let s := { s with pm := { s.pm with
      active := s.pm.staged, staged := .empty, countdown := 0, nextNumber := s.pm.staged.number, cancelled := false
      state := .idle } }
  let s := planResult .switched (carryOver old s.entries s.assembling s)
  match s.pm.held with
  | some a => planRequestIdle a { s with pm := { s.pm with held := none } }
  | none => s

/-- The cancel frame (R52). -/
def cancelCountdown (s : State) : State :=
  let s := fixUnchanged true s
  let s := planResult .cancelled { s with pm := { s.pm with staged := .empty, state := .idle } }
  match s.pm.remembered with
  | some a => planRequestIdle a { s with pm := { s.pm with remembered := none } }
  | none => s

/-- PM fixes the plan of the next frame at a cut-off (R49). -/
def fixPlan (s : State) : State :=
  match s.pm.state with
  | .idle => if s.pm.staged.isReady then beginCountdown s else fixUnchanged false s
  | .loading => fixUnchanged false s
  | .countdown =>
    if s.pm.countdown ≤ 1 then switchPlan s
    else { s with pm := { s.pm with
      countdown := s.pm.countdown - 1, nextNumber := s.pm.staged.number, cancelled := false } }
  | .cancelling => cancelCountdown s

end Sys2Proof.Machine
end

