-- ==== Sys2Proof/Machine/Directory.lean ====
section
/-! DEFINITION. The Directory Generator (chapter 8): the records, the carousel and the filling of the field. -/

namespace Sys2Proof.Machine

/-- The bytes of the directory field that DG fills (R135). -/
def directorySize : Nat := 126

/-- A record: its kind, its length and its content (R135). -/
def record (kind : Nat) (content : List Byte) : List Byte :=
  BitVec.ofNat 8 kind :: BitVec.ofNat 8 (content.length + 2) :: content

/-- How many parts a plan of e entries has (R136). -/
def partCount (e : Nat) : Nat := (e + 7) / 8

/-- An entry in a plan part (R136). -/
def partEntry (e : PlanEntry) : List Byte := e.subId :: be 2 e.start ++ [BitVec.ofNat 8 e.cells, e.mask]

/-- A PLAN_PART (kind 1) or NEXT_PLAN_PART (kind 2) record (R136). -/
def planPart (kind : Nat) (number : Byte) (entries : List PlanEntry) (k : Nat) : List Byte :=
  record kind ([number, BitVec.ofNat 8 k, BitVec.ofNat 8 (partCount entries.length)]
    ++ ((entries.drop (8 * k)).take 8).flatMap partEntry)

/-- A SERVICE record (R137). -/
def serviceRecord (e : PlanEntry) : List Byte :=
  record 3 (be16 e.sid
    ++ [e.subId, BitVec.ofNat 8 ((e.labelAddr != 0).toNat + 2 * (e.pictureAddr != 0).toNat)] ++ e.name)

/-- The time of day of a frame from the anchor (R139): unknown for an anchor of 86,400,000 ms or more. -/
def timeOfDay (anchorSerial : U32) (anchorMs : Nat) (frame : U32) : Nat :=
  if anchorMs < 86400000 then (anchorMs + (frame - anchorSerial).toNat * 48) % 86400000 else 4294967295

/-- A TIME record (R138). -/
def timeRecord (anchor : Option (U32 × Nat)) (frame : U32) : List Byte :=
  record 4 (be32 frame ++ be 4 (match anchor with
    | some (a, m) => timeOfDay a m frame
    | none => 4294967295))

/-- An ALERT record of the entry copy of a frame, with its effective frame (R140). -/
def alertRecord (phase : AlertPhase) (e : AlertEntry) (effective : U32) : List Byte :=
  record 5 ([e.alertId, BitVec.ofNat 8 e.level, BitVec.ofNat 8 phase.code, e.mask, BitVec.ofNat 8 e.source.code]
    ++ be 2 (remainingSeconds e.remaining) ++ be32 effective)

/-- The run record as DG keeps it while it fills a directory (R141). -/
def keepRun (phase : AlertPhase) (copy : Option AlertEntry) (frame : U32) (run : Option RunRecord) : Option RunRecord :=
  match phase, copy with
  | .active, some e =>
    match run with
    | some r => if r.source = e.source ∧ r.alertId = e.alertId then some r
        else some { source := e.source, alertId := e.alertId, serial := frame }
    | none => some { source := e.source, alertId := e.alertId, serial := frame }
  | _, _ => none

/-- The effective frame of an ALERT record, by the phase of its frame (R140). -/
def effectiveFrame (phase : AlertPhase) (e : AlertEntry) (frame : U32) (run : Option RunRecord) : U32 :=
  match phase with
  | .announcing => frame + 3 - BitVec.ofNat 32 e.announce
  | .active => (run.map (·.serial)).getD frame
  | .releasing => frame + 1
  | .none => frame

/-- The record at a position of the carousel (R143). -/
def carouselRecord (p : Plan) (anchor : Option (U32 × Nat)) (frame : U32) (position : Nat) : List Byte :=
  let parts := partCount p.entries.length
  if position < parts then planPart 1 p.number p.entries position
  else match p.entries[position - parts]? with
    | some e => serviceRecord e
    | none => timeRecord anchor frame

/-- The positions of a plan's carousel: p + N + 1 (R143). -/
def cycleLength (p : Plan) : Nat := partCount p.entries.length + p.entries.length + 1

/-- What the carousel step has placed, and the position it ended at. -/
structure Placed where
  bytes    : List Byte
  position : Nat

/-- The carousel step (R143): records are placed while they fit the room that remains, and at most once round. The number
bounds the records to place. -/
def placeCarousel (p : Plan) (anchor : Option (U32 × Nat)) (frame : U32) : Nat → Nat → Nat → Placed
  | 0, _, position => { bytes := [], position := position }
  | n + 1, room, position =>
    let r := carouselRecord p anchor frame position
    if r.length ≤ room then
      let rest := placeCarousel p anchor frame n (room - r.length) ((position + 1) % cycleLength p)
      { rest with bytes := r ++ rest.bytes }
    else { bytes := [], position := position }

/-- The time anchor last accepted by CP (R139). -/
def State.anchor (s : State) : Option (U32 × Nat) := s.cp.accepted.map (fun v => (v.anchorSerial, v.anchorMs))

/-- A directory: its 126 bytes and DG's state after it. -/
structure Directory where
  bytes : List Byte
  dg    : DirectoryGenerator

/-- The filling of a frame's directory (R141 to R146). -/
def fillDirectory (s : State) : Directory :=
  let frame := s.assembling
  let countdown := s.pm.countdown
  let run := keepRun s.ac.phase s.ac.copy frame s.dg.run
  let alert := match s.ac.phase, s.ac.copy with
    | .none, _ => []
    | phase, some e => alertRecord phase e (effectiveFrame phase e frame run)
    | _, none => []
  let announced := (s.pm.staged.plan?.map (·.entries)).getD []
  let index := if countdown = 16 then 0 else s.dg.nextPart
  let nextPart := if countdown = 0 then [] else planPart 2 s.pm.nextNumber announced index
  let start := if s.dg.lastCountdown = 1 ∧ countdown = 0 then 0 else s.dg.position
  let fixed := alert ++ nextPart
  let plan := s.pm.active.plan?.getD { number := 0, entries := [], addr := 0 }
  let placed := placeCarousel plan s.anchor frame (cycleLength plan) (directorySize - fixed.length) start
  let bytes := fixed ++ placed.bytes
  { bytes := bytes ++ zeros (directorySize - bytes.length)
    dg :=
      { position := placed.position
        nextPart := if countdown = 0 then s.dg.nextPart else (index + 1) % partCount announced.length
        lastCountdown := countdown, run := run } }

end Sys2Proof.Machine
end

