-- ==== Sys2Proof/Machine/Composer.lean ====
section
/-! DEFINITION. The Frame Composer (1.1): the header, the payload and the CRCs of a completed frame. -/

namespace Sys2Proof.Machine

/-- The sync pattern (R4). -/
def syncPattern : List Byte := [0xB2, 0x6E, 0x35]

/-- The flags byte of a header (R4, 12.4). -/
def headerFlags (holding holdover cancelled : Bool) : Byte :=
  BitVec.ofNat 8 (holding.toNat + 2 * holdover.toNat + 4 * cancelled.toNat)

/-- The alert byte of a header: phase in bits 1:0, level in bits 5:4 (12.4). -/
def alertByte (phase : AlertPhase) (level : Nat) : Byte := BitVec.ofNat 8 (phase.code + 16 * (level % 4))

/-- The first 14 bytes of the header of the frame being assembled, from the values fixed for it (R4, R5). -/
def headerFields (s : State) : List Byte :=
  let copy := s.ac.copy
  syncPattern ++ be 2 (s.assembling.toNat % 65536) ++ be 2 (s.assembling.toNat / 65536)
    ++ [s.pm.active.number, BitVec.ofNat 8 s.pm.countdown, s.pm.nextNumber,
        headerFlags (s.modes.mode == .holding) (s.ft.state == .holdover) s.pm.cancelled,
        alertByte s.ac.phase ((copy.map (·.level)).getD 0), (copy.map (·.alertId)).getD 0,
        BitVec.ofNat 8 s.entries.length]

/-- A run of bytes with its CRC after it (R3). -/
def withCrc (bytes : List Byte) : List Byte := bytes ++ be16 (crc16 bytes)

/-- A packed sub-channel field with the start cell of its entry. -/
structure PackedField where
  start : Nat
  bytes : List Byte

/-- The payload: every field in its cells, and 0x00 in the cells that no sub-channel owns (R7). -/
def payloadOf (fields : List PackedField) : List Byte :=
  fields.foldl (fun p f => placeAt p (32 * f.start) f.bytes) (zeros Config.payloadSize)

/-- The frame being assembled, completed (R6, R7, R8). -/
def composeFrame (s : State) (directory : List Byte) (fields : List PackedField) : Frame :=
  let payload := payloadOf fields
  { serial := s.assembling, mode := s.modes.mode, header := withCrc (headerFields s)
    directory := withCrc directory, payload := payload, trailer := be16 (crc16 payload) }

/-- The bytes of a frame in the order they are emitted (R1). -/
def Frame.bytes (f : Frame) : List Byte := f.header ++ f.directory ++ f.payload ++ f.trailer

end Sys2Proof.Machine
end

