-- ==== Sys2Proof/Machine/Standby.lean ====
section
/-! DEFINITION. The Standby Store (10.5): requests, loads and the content checks. -/

namespace Sys2Proof.Machine

/-- The size of a region (10.5). -/
def RegionId.size : RegionId → Nat
  | .silence => 4096
  | .loop => 40960
  | .picture => 16384
  | .text => 256

/-- A region that a load has ended for without success (R181), or a STOP or a soft reset (R178). -/
def Region.invalidated (r : Region) : Region := { r with state := .invalid, revision := 0 }

/-- A result recorded, with STANDBY raised (R180, R181). -/
def standbyResult (r : LoadResult) (s : State) : State :=
  raise .standby { s with ss := { s.ss with lastResult := r } }

/-- The content check of a loaded region of a length (R181): the LOOP frame count when it passes. -/
def contentCheck (i : RegionId) (len : Nat) (bytes : List Byte) (frames : Nat) : Option Nat :=
  match i with
  | .loop => if bytes.isEmpty then none else (walkLoop 16 bytes).map (·.length)
  | .silence => if 3838 < len then none else some frames
  | .picture => some frames
  | .text => some frames

/-- A load whose last transfer completed: the region is checked and becomes VALID or INVALID (R181). -/
def finishLoad (l : StandbyLoad) (s : State) : State :=
  let r := s.ss.region l.request.region
  let t := { s.ss with load := none }
  match contentCheck l.request.region l.request.len r.bytes s.ss.frameCount with
  | some frames =>
    standbyResult .loaded { s with ss :=
      { t.setRegion l.request.region
          { r with state := .valid, revision := l.request.sequence, len := l.request.len } with
        frameCount := frames } }
  | none => standbyResult .format { s with ss := t.setRegion l.request.region r.invalidated }

/-- The next transfer of a load: up to 256 bytes, in ascending order (R181). -/
def requestStandby (l : StandbyLoad) (s : State) : State :=
  enterRead .standby (addrPlus l.request.addr l.copied) (min 256 (l.request.len - l.copied))
    { s with ss := { s.ss with load := some l } }

/-- A load begins (R181): its region is LOADING, and a length of 0 completes at once. -/
def beginLoad (q : StandbyRequest) (s : State) : State :=
  let r := s.ss.region q.region
  let t := s.ss.setRegion q.region { r with state := .loading, revision := 0, bytes := [] }
  let s := { s with ss := { t with loopIndex := if q.region == .loop then 0 else t.loopIndex } }
  let l : StandbyLoad := { request := q, copied := 0 }
  if q.len == 0 then finishLoad l s else requestStandby l s

/-- Whether a request is blocked: for LOOP or PICTURE while a queue entry is ANNOUNCING or ACTIVE (R182). -/
def standbyBlocked (q : StandbyRequest) (s : State) : Bool :=
  (q.region == .loop || q.region == .picture) && s.ac.takingOver

/-- The pending request begins when no load is in progress and it is not blocked (R182). -/
def beginPending (s : State) : State :=
  match s.ss.load, s.ss.pending with
  | none, some q =>
    if standbyBlocked q s then s else beginLoad q { s with ss := { s.ss with pending := none } }
  | _, _ => s

/-- A changed standby request is judged (R180). A load of no bytes that ends at once is a load's end, after which
R182 applies. -/
def standbyRequest (v : RootValues) (s : State) : State :=
  match RegionId.ofCode v.standbyRegion with
  | none => standbyResult .badRegion s
  | some i =>
    let q : StandbyRequest := { region := i, addr := v.standbyAddr, len := v.standbyLen, sequence := v.standbySeq }
    if i.size < q.len then standbyResult .tooLong s
    else if s.ss.load.isSome || s.ss.pending.isSome then
      let s := if s.ss.pending.isSome then
          standbyResult .superseded { s with ss := { s.ss with supersedes := s.ss.supersedes + 1 } }
        else s
      { s with ss := { s.ss with pending := some q } }
    else if standbyBlocked q s then { s with ss := { s.ss with pending := some q } }
    else beginPending (beginLoad q s)

/-- The completion of a load's transfer (R181), and then R182. -/
def standbyDone (o : TransferOutcome) (s : State) : State :=
  match s.ss.load with
  | none => s
  | some l =>
    let fail (s : State) : State :=
      standbyResult .fault { s with ss :=
        ({ s.ss with load := none }).setRegion l.request.region (s.ss.region l.request.region).invalidated }
    match o with
    | .data bytes =>
      let r := s.ss.region l.request.region
      let s := { s with ss := s.ss.setRegion l.request.region { r with bytes := r.bytes ++ bytes } }
      let l := { l with copied := l.copied + bytes.length }
      if l.copied < l.request.len then requestStandby l s else beginPending (finishLoad l s)
    | .error => beginPending (fail s)
    | .timeout => beginPending (fail s)

/-- A region at a STOP or a soft reset: LOADING becomes INVALID with revision 0 (R178). -/
def Region.settled (r : Region) : Region := if r.state == .loading then r.invalidated else r

/-- The store with no region LOADING (R178). -/
def StandbyStore.settled (t : StandbyStore) : StandbyStore :=
  { t with
    silence := t.silence.settled, loop := t.loop.settled, picture := t.picture.settled, text := t.text.settled }

/-- The store on entering STOPPED (R178): a load in progress and a pending request are dropped, no result is recorded. -/
def StandbyStore.stopped (t : StandbyStore) : StandbyStore := { t.settled with load := none, pending := none }

/-- The store after a soft reset (R178, R29). -/
def StandbyStore.softReset (t : StandbyStore) : StandbyStore :=
  { t.stopped with lastResult := .none, loopIndex := 0, supersedes := 0 }

end Sys2Proof.Machine
end

