-- ==== Sys2Proof/Machine/Status.lean ====
section
/-! DEFINITION. The Status Writer (2.4): the status snapshot, its write-back and the closing write-back. -/

namespace Sys2Proof.Machine

/-- A one-byte field. -/
def u8 (n : Nat) : Byte := BitVec.ofNat 8 n

/-- A service record of the status block (R78, R116, R134, 12.8). -/
def serviceStatus (v : Service) : List Byte :=
  be16 v.sid ++ be16 v.contribution.taken
    ++ [u8 v.contribution.substitution.code, u8 v.contribution.lastLate.code]
    ++ be 2 v.contribution.lateRun ++ be 4 v.contribution.lateTotal
    ++ be16 v.label.revision ++ [u8 v.label.run.position, u8 v.picture.carousel.code]
    ++ be 2 v.label.slips ++ [u8 v.picture.entry, 0] ++ be16 v.picture.passRevision ++ zeros 10

/-- The 24 service records: one for each service in plan order, and zero for the rest (R198). -/
def serviceStatuses (services : List Service) : List Byte :=
  let b := services.flatMap serviceStatus
  b ++ zeros (768 - b.length)

/-- The state and revision of a region in the status block (12.8). -/
def regionStatus (r : Region) : List Byte := [u8 r.state.code, 0] ++ be16 r.revision

/-- The device-wide counters of the status block, offsets 64 to 127 (12.8). -/
def counterStatus (s : State) : List Byte :=
  be32 s.ft.spurious ++ be32 s.ft.holdovers ++ be32 s.tp.truncated ++ be32 s.cp.ignores ++ be32 s.sw.coalesced
    ++ be 4 s.mp.faults ++ be 4 s.mp.timeouts ++ be 4 s.alr.lost ++ (s.tgp.rejects.toList.flatMap (be 2))
    ++ be 2 s.tgp.testCount ++ be 2 s.ac.drops ++ be32 s.pm.supersedes ++ be32 s.ss.supersedes

/-- The body of a status block, offsets 4 to 895, from the frame's serial, the code of its mode, and the service records
(R35, R198). -/
def statusBody (serial : U32) (mode : Byte) (services : List Byte) (s : State) : List Byte :=
  let copy := s.ac.copy
  be32 serial
    ++ [mode, u8 s.modes.mode.code, u8 s.modes.pending.code, u8 s.modes.resume.code, u8 s.ft.state.code,
        u8 s.modes.startResult.code, 0, 0, u8 s.pm.state.code, s.pm.active.number, s.pm.staged.number,
        u8 s.pm.lastResult.code]
    ++ be32 s.pm.switchSerial
    ++ [(copy.map (·.alertId)).getD 0, u8 ((copy.map (·.level)).getD 0), u8 s.ac.phase.code, u8 s.ac.queue.length]
    ++ be 2 (remainingSeconds ((copy.map (·.remaining)).getD 0)) ++ [s.tgp.lastTest, 0]
    ++ regionStatus s.ss.silence ++ regionStatus s.ss.loop ++ regionStatus s.ss.picture ++ regionStatus s.ss.text
    ++ [u8 s.ss.lastResult.code] ++ zeros 15
    ++ counterStatus s ++ services

/-! ### Write-backs (R35, R36, R198) -/

/-- The offset in the status block, and the length, of the transfers of a write-back (R198): the leading copy, four bursts
of the body, the trailing copy. -/
def statusPart (part : Nat) : Nat × Nat :=
  if part = 0 then (0, 4)
  else if part ≤ 3 then (4 + 256 * (part - 1), 256)
  else if part = 4 then (772, 124)
  else (896, 4)

/-- The bytes of a transfer of a write-back whose sequence is given. -/
def statusBytes (snap : Snapshot) (sequence : U32) (part : Nat) : List Byte :=
  if part = 0 then be32 sequence
  else if part ≤ 4 then slice snap.body ((statusPart part).1 - 4) (statusPart part).2
  else be32 sequence

/-- A transfer of the write-back in progress is requested (R36). -/
def requestStatus (snap : Snapshot) (sequence : U32) (part : Nat) (s : State) : State :=
  enter .status (some (statusBytes snap sequence part)) (addrPlus snap.addr (statusPart part).1) (statusPart part).2
    { s with sw := { s.sw with part := part } }

/-- A snapshot becomes the write-back, WAITING for its first grant. The leading copy is the sequence that the grant will
give (R36). -/
def startWriteback (snap : Snapshot) (s : State) : State :=
  requestStatus snap (s.sw.sequence + 1) 0 { s with sw := { s.sw with state := .waiting, current := some snap } }

/-- The write-back of a snapshot is requested (R35). -/
def requestWriteback (snap : Snapshot) (s : State) : State :=
  if snap.addr == 0 then s
  else
    match s.sw.state with
    | .idle => startWriteback snap s
    | .waiting =>
      amendStatus snap.addr
        { s with sw := { s.sw with current := some snap, coalesced := s.sw.coalesced + 1 } }
    | .writing =>
      { s with sw := { s.sw with
          held := some snap
          coalesced := if s.sw.held.isSome then s.sw.coalesced + 1 else s.sw.coalesced } }

/-- A write-back ends: it is IDLE, and a held snapshot becomes the write-back (R36). -/
def endWriteback (s : State) : State :=
  let s' := { s with sw := { s.sw with state := .idle, current := none, part := 0, held := none } }
  match s.sw.held with
  | some snap => startWriteback snap s'
  | none => s'

/-- The completion of a write-back transfer (R36). -/
def statusTransferDone (o : TransferOutcome) (s : State) : State :=
  match s.sw.current, o with
  | some snap, .data _ =>
    if s.sw.part < 5 then requestStatus snap s.sw.sequence (s.sw.part + 1) s else endWriteback (raise .frame s)
  | _, _ => endWriteback s

/-- The status block address last accepted; 0 when there is none (R35). -/
def State.statusAddr (s : State) : Addr := (s.cp.accepted.map (·.statusAddr)).getD 0

/-- At the start of F, SW requests the write-back of F's snapshot (R35). -/
def requestFrameStatus (s : State) : State :=
  match s.sw.assembled with
  | some body =>
    requestWriteback { addr := s.statusAddr, body := body } { s with sw := { s.sw with assembled := none } }
  | none => s

/-- The code of "mode fixed for F" in a closing snapshot: that of the last frame begun, or a free value when none was. -/
def closingMode (s : State) : Byte :=
  match s.tp.lastMode with
  | some m => u8 m.code
  | none => Config.modeOfNoFrame s.freeDraws

/-- The closing write-back, to the address SW took before CP forgot its values (R36). -/
def closingWriteback (addr : Addr) (s : State) : State :=
  requestWriteback { addr := addr, body := statusBody s.tp.lastSerial (closingMode s) (serviceStatuses []) s }
    { s with freeDraws := if s.tp.lastMode.isSome then s.freeDraws else s.freeDraws + 1 }

end Sys2Proof.Machine
end

