-- ==== Sys2Proof/Machine/Modes.lean ====
section
/-! DEFINITION. Starting, stopping and resetting the device (2.1), and the mode fixed at a cut-off (R25). -/

namespace Sys2Proof.Machine

/-! ### Entering STOPPED -/

/-- The Frame Timer's state for a source, as after reset (R9). -/
def timerStateOf : FrameSource → TimerState
  | .internal => .internal
  | .external => .locked

/-- The Frame Timer on returning to STOPPED: it stops, the next serial is 0, its state follows CONTROL, and its counts are
kept (R9). -/
def FrameTimer.stopped (source : FrameSource) (f : FrameTimer) : FrameTimer :=
  { f with
    source := source, state := timerStateOf source, timingFrom := none, lastStart := none, period := 48
    edgePhase := none, nextSerial := 0, pollsMade := 0, cutOffMade := false }

/-- The Plan Manager on entering STOPPED: the last plan result and the supersede count are kept (R40). -/
def PlanManager.stopped (p : PlanManager) : PlanManager :=
  { PlanManager.reset with lastResult := p.lastResult, supersedes := p.supersedes }

/-- The Alert Line Receiver disabled (R147): the lost-byte count and the rate in force are kept. DESIGN CHOICE, log entry 26: the
sample position becomes 0 and the bit being sampled the start bit, for which R147 gives no value. -/
def LineReceiver.disabled (r : LineReceiver) : LineReceiver :=
  { LineReceiver.reset with rate := r.rate, lost := r.lost }

/-- The Telegram Parser on disabling of ALR (R156): its counts and the last TEST id are kept. -/
def TelegramParser.disabled (p : TelegramParser) : TelegramParser :=
  { TelegramParser.reset with rejects := p.rejects, lastTest := p.lastTest, testCount := p.testCount }

/-- The Alert Controller on entering STOPPED: the drop count is kept (R162). -/
def AlertController.stopped (a : AlertController) : AlertController := { AlertController.reset with drops := a.drops }

/-- The Control Poller on entering STOPPED: it forgets its values and sequences; the ignore count is kept (2.3). -/
def ControlPoller.stopped (c : ControlPoller) : ControlPoller := { ControlPoller.reset with ignores := c.ignores }

/-- The Transport Port on entering STOPPED: IDLE, its count and the last frame begun kept (R18, R31). DESIGN CHOICE, log
entry 29: in IDLE, where no byte is next, the position is 0, no frame is held and the serial stays as it stood. -/
def TransportPort.stopped (t : TransportPort) : TransportPort := { t with state := .idle, frame := none, position := 0 }

/-- The blocks on entering STOPPED (R23, R27), and MODE raised. -/
def enterStopped (s : State) : State :=
  raise .mode
    { s with
      modes := { s.modes with mode := .stopped, pending := .none, stage := .idle }
      ft := s.ft.stopped s.regs.source
      tp := s.tp.stopped
      completed := none
      pm := s.pm.stopped
      services := []
      alertSlot := none
      alertAudio := .absent
      dg := .reset
      ac := s.ac.stopped
      alr := s.alr.disabled
      tgp := s.tgp.disabled
      ss := s.ss.stopped
      cp := s.cp.stopped
      sw := { s.sw with assembled := none } }

/-- The write-back on a STOP: IDLE, with no snapshot (2.4). -/
def StatusWriter.torndown (w : StatusWriter) : StatusWriter :=
  { w with state := .idle, current := none, part := 0, held := none }

/-- A STOP carried out (R27): every request is withdrawn, the blocks are torn down, and SW makes the closing write-back to
the status block address last accepted. -/
def carryOutStop (s : State) : State :=
  let addr := s.statusAddr
  let s := enterStopped (withdraw (fun _ => true) s)
  closingWriteback addr { s with sw := s.sw.torndown }

/-- A start sequence that ends with a result other than OK (R23): its transfer is withdrawn, the device is STOPPED again, and
after NO_PLAN or PLAN_INVALID SW makes the closing write-back. -/
def endStart (result : StartResult) (s : State) : State :=
  let addr := s.statusAddr
  let s := enterStopped (withdraw (· != .status) s)
  let s := { s with modes := { s.modes with startResult := result } }
  if result = .noPlan ∨ result = .planInvalid then closingWriteback addr s else s

/-! ### Starting (R22, R23) -/

/-- Whether the root address may be used: not 0, and a multiple of 64 (R22). -/
def rootAddressGood (a : Addr) : Bool := a != 0 && a.toNat % 64 == 0

/-- A RUN refused in STOPPED (R22). -/
def refuseStart (s : State) : State :=
  raise .mode { s with modes := { s.modes with startResult := .rootAddress } }

/-- Entering STARTING (R22): the Frame Timer begins timing and the root read is requested. -/
def enterStarting (s : State) : State :=
  let s := raise .mode
    { s with
      modes := { mode := .starting, pending := .none, startResult := .pending, resume := .none, stage := .rootRead }
      ft := { s.ft with timingFrom := some s.now, lastStart := none, nextSerial := 0, edgePhase := none }
      tp := { s.tp with lastSerial := 0, lastMode := none } }
  enterRead .rootRead s.rootAddress 128 s

/-- ALR enabled at the rate a root read gives (R147). DESIGN CHOICE, log entry 26: the sample position becomes 0 and the bit being
sampled the start bit, for which R147 gives no value. -/
def LineReceiver.enabled (rate : LineRate) (r : LineReceiver) : LineReceiver :=
  { r with state := .hunt, rate := rate, idleCount := 0, armed := false, lastSample := false, samplePos := 0, bit := .start }

/-- The completion of the start sequence's root read (R23). -/
def rootReadDone (o : TransferOutcome) (s : State) : State :=
  match o with
  | .data bytes =>
    if slice bytes 0 4 != rootSignature then endStart .rootSignature s
    else
      let v := rootValues bytes
      let s := { s with
        cp := { s.cp with
          accepted := some v
          seen := some { plan := v.planSeq, cell := v.cellSeq, standby := v.standbySeq } }
        alr := s.alr.enabled ((LineRate.ofCode v.rateCode).getD .baud9600) }
      if v.planAddr == 0 then endStart .noPlan s
      else beginPlanLoad true v.planAddr { s with modes := { s.modes with stage := .planLoad } }
  | .error => endStart .rootFault s
  | .timeout => endStart .rootFault s

/-- The outcome of the start sequence's load (R44, R23): on a pass every block begins its records for the plan's entries
(R58, R79, R100, R119). -/
def activeOutcome (outcome : Except PlanResult Plan) (s : State) : State :=
  let s := { s with pm := { s.pm with load := none } }
  match outcome with
  | .ok p =>
    planResult .accepted
      { s with
        pm := { s.pm with
          active := .ready p, staged := .empty, state := .idle, countdown := 0, nextNumber := p.number
          cancelled := false }
        services := p.entries.map (fun e => Service.fresh e (0 - 1))
        modes := { s.modes with startResult := .ok, stage := .endedOk } }
  | .error r => endStart .planInvalid (planResult r s)

/-- The outcome of a load, by its target bank (R44). -/
def planLoadOutcome (l : PlanLoad) (outcome : Except PlanResult Plan) (s : State) : State :=
  if l.toActive then activeOutcome outcome s else stagedOutcome outcome s

/-- A load whose header, and whose entries so far, are read: the next burst, or validation (R41, R42). -/
def continueLoad (l : PlanLoad) (h : PlanHeader) (s : State) : State :=
  if l.bytes.length < 64 * h.toRead then requestEntries l h s
  else
    match planFailure h l.bytes with
    | some r => planLoadOutcome l (.error r) s
    | none => planLoadOutcome l (.ok (planOf h l.addr l.bytes)) s

/-- The completion of a load's transfer (R41). -/
def planTransferDone (o : TransferOutcome) (s : State) : State :=
  match s.pm.load with
  | none => s
  | some l =>
    match o with
    | .data bytes =>
      match l.header with
      | none =>
        let h := planHeaderOf bytes
        continueLoad { l with header := some h } h s
      | some h => continueLoad { l with bytes := l.bytes ++ bytes } h s
    | .error => planLoadOutcome l (.error .fault) s
    | .timeout => planLoadOutcome l (.error .fault) s

/-! ### Mode requests (R21) -/

/-- The pending request replaced. -/
def setPending (r : ModeRequest) (s : State) : State := { s with modes := { s.modes with pending := r } }

/-- A RUN request by mode and pending request (R21, R22). -/
def requestRun (s : State) : State :=
  match s.modes.mode with
  | .stopped => if rootAddressGood s.rootAddress then enterStarting s else refuseStart s
  | .starting => s
  | .running => if s.modes.pending = .hold then setPending .none s else s
  | .holding => if s.modes.pending = .none then setPending .run s else s

/-- A HOLD request by mode and pending request (R21). -/
def requestHold (s : State) : State :=
  match s.modes.mode with
  | .stopped => s
  | .starting => setPending .hold s
  | .running => if s.modes.pending = .none then setPending .hold s else s
  | .holding => if s.modes.pending = .run then setPending .none s else s

/-- A STOP request by mode and pending request (R21, R23): carried out at once when no frame is in emission (R27, R18). -/
def requestStop (s : State) : State :=
  match s.modes.mode with
  | .stopped => s
  | .starting => endStart .aborted s
  | .running => stopRunning s
  | .holding => stopRunning s
where
  /-- In RUNNING or HOLDING. -/
  stopRunning (s : State) : State :=
    if s.modes.pending = .stop then s
    else if s.tp.state = .emitting then setPending .stop s
    else carryOutStop s

/-! ### The mode fixed at a cut-off (R25) -/

/-- The device mode becomes another mode, with a resume reason, and MODE is raised. -/
def changeMode (m : DevMode) (pending : ModeRequest) (resume : ResumeReason) (s : State) : State :=
  raise .mode { s with modes := { s.modes with mode := m, pending := pending, resume := resume } }

/-- The mode of the next frame is fixed (R25). -/
def fixMode (s : State) : State :=
  match s.modes.mode with
  | .running =>
    if s.modes.pending = .hold ∧ s.ac.blocking = false then changeMode .holding .none s.modes.resume s else s
  | .holding =>
    if s.modes.pending = .run then changeMode .running .none .request s
    else if s.ac.level3Inserted then changeMode .running s.modes.pending .emergency s
    else s
  | .stopped => s
  | .starting => s

/-! ### Resets (R28, R29) -/

/-- Power-on reset (R28): every block is in its reset state, and a quiet time begins. The queue of commands, the time, the
level of TX_READY and the number of free values drawn are not the part's to reset. -/
def powerOn (s : State) : State :=
  { State.reset with
    pending := s.pending, now := s.now, freeDraws := s.freeDraws
    tp := { TransportPort.reset with ready := s.tp.ready }
    ft := { FrameTimer.reset with frameMarks := s.ft.frameMarks }
    mp := .resetAt s.now }

/-- Soft reset (R29): ROOT_LO, ROOT_HI, CAUSE_MASK and the Standby Store's regions are kept. -/
def softReset (s : State) : State :=
  let r := powerOn s
  { r with
    regs := { r.regs with rootLo := s.regs.rootLo, rootHi := s.regs.rootHi }
    sw := { r.sw with mask := s.sw.mask }
    ss := s.ss.softReset }

end Sys2Proof.Machine
end

