-- ==== Sys2Proof/Machine/CutOff.lean ====
section
/-! DEFINITION. The cut-off (R15): the work for the frame being assembled, and then the fixing for the next. -/

namespace Sys2Proof.Machine

/-- What a service's decision and packing leave: the service, the audio decided and permission for the annex. -/
structure Decided where
  audio     : List Byte
  permitted : Bool
  record    : Contribution
  late      : Bool

/-- The decision of a service for the frame being assembled, and what is handed to AS (R68, R75). -/
def decideService (e : PlanEntry) (v : Service) (s : State) : Decided :=
  let d := decideAudio v.contribution ((v.slot.getD .fresh).result) s.ss.silence.readable (lengthMax e.cells) s.assembling
  if s.isTarget e.sid then
    { audio := takeoverAudio s.alertAudio (lengthMax e.cells) d.audio, permitted := true, record := d.record, late := d.late }
  else { audio := d.audio, permitted := d.permitted, record := d.record, late := d.late }

/-- The frame's work under way: the state, and the fields packed so far. -/
structure Work where
  state  : State
  fields : List PackedField

/-- One service of a RUNNING frame: its decision, its packing, and the label poll that falls due (R68, R82, R101). -/
def workService (w : Work) (x : PlanEntry × Nat) : Work :=
  let s := w.state
  let e := x.1
  match s.serviceOf e.sid with
  | some v =>
    let d := decideService e v s
    let k := packField (s.packInput e.sid) e d.audio d.permitted v
    let v' := { k.svc with contribution := d.record, slot := none }
    let s := raiseIf d.late .late (updateService e.sid (fun _ => v') s)
    let s := withdrawEndedRefill v.picture v'.picture e.sid s
    { state := pollLabel x.2 e s, fields := w.fields ++ [{ start := e.start, bytes := fieldBytes d.audio k }] }
  | none => w

/-- CR's and AS's work for a RUNNING frame (R66 to R77, R82): slot reads end, the alert audio of an ACTIVE frame is
selected, and every service is decided and packed in plan order. -/
def workRunning (s : State) : Work :=
  let s := withdraw Purpose.isSlot s
  let s := if s.ac.phase == .active then selectAlertAudio s else { s with alertAudio := .absent }
  let w := (s.entries.zipIdx).foldl workService { state := s, fields := [] }
  { w with state := { w.state with alertSlot := none, alertAudio := .absent } }

/-- The work for the frame being assembled (R15): none of it for the payload of a HOLDING frame (R26). -/
def workFrame (s : State) : Work :=
  if s.modes.mode == .running then workRunning s else { state := s, fields := [] }

/-- The directory and the completed frame (R8, R142). -/
def completeFrame (w : Work) : State :=
  let s := w.state
  let d := fillDirectory s
  { s with completed := some (composeFrame s d.bytes w.fields), dg := d.dg }

/-- The fixing for the next frame (R15): AC takes its requests, PM fixes the plan, the mode is fixed, and AC fixes the phase
and the targets. -/
def fixNext (s : State) : State := fixPhase (fixMode (fixPlan (takeRequests s)))

/-- SW assembles the snapshot of the completed frame (R35): the service records as they stood when the last field was packed,
the rest as it stands now. -/
def assembleSnapshot (serial : U32) (mode : DevMode) (services : List Byte) (s : State) : State :=
  { s with sw := { s.sw with assembled := some (statusBody serial (u8 mode.code) services s) } }

/-- A cut-off (R15). -/
def cutOff (s : State) : State :=
  let s := { s with ft := { s.ft with cutOffMade := true } }
  let serial := s.assembling
  let mode := s.modes.mode
  let s := completeFrame (workFrame s)
  let services := serviceStatuses s.services
  beginPending (assembleSnapshot serial mode services (fixNext s))

/-- The time at which the current frame period began: the last frame start, or the entering of STARTING (R9 to R12). -/
def FrameTimer.base (f : FrameTimer) : Nat := f.lastStart.getD (f.timingFrom.getD 0)

end Sys2Proof.Machine
end

