-- ==== Sys2Proof/Machine/Timer.lean ====
section
/-! DEFINITION. Frame starts and the commands of the Frame Timer and the Transport Port (chapter 1). -/

namespace Sys2Proof.Machine

/-- FRAME_MARK is pulsed at a frame start when the enable is set (R19). -/
def pulseMark (s : State) : State :=
  if s.regs.markEnable then { s with ft := { s.ft with frameMarks := s.ft.frameMarks + 1 } } else s

/-- A source change that waits applies at a frame start, which was taken under the old source (R13). -/
def applySource (s : State) : State :=
  if s.ft.source = s.regs.source then s
  else
    let st := timerStateOf s.regs.source
    raiseIf (st != s.ft.state) .clock
      { s with ft := { s.ft with source := s.regs.source, state := st, period := 48, edgePhase := none } }

/-- The timeline of a new assembly period begins (1.3). -/
def beginTimeline (s : State) : State := { s with ft := { s.ft with pollsMade := 0, cutOffMade := false } }

/-- CP's root poll at a frame start (R33): an uncompleted one is withdrawn and counted. -/
def rootPoll (s : State) : State :=
  let s := if s.cp.poll == .none then s
    else withdraw (· == .rootPoll) { s with cp := { s.cp with ignores := s.cp.ignores + 1 } }
  enterRead .rootPoll s.rootAddress 128 { s with cp := { s.cp with poll := .waiting } }

/-- The hand-over of a frame start that begins an assembly period (R16), the requests in the order of the worked sequence of
11.6. -/
def beginAssembly (s : State) : State := beginSlotReads (pictureRequests (rootPoll (beginTimeline s)))

/-- The opening start (R24). -/
def openingStart (s : State) : State :=
  let s := raise .mode { s with modes := { s.modes with mode := .running, stage := .idle } }
  beginAssembly (pulseMark s)

/-- TP begins the completed frame; a frame still EMITTING is truncated and counted (R17). -/
def beginEmission (s : State) : State :=
  { s with
    completed := none
    tp := { s.tp with
      state := .emitting, frame := s.completed, serial := s.ft.nextSerial, position := 0
      truncated := if s.tp.state = .emitting then s.tp.truncated + 1 else s.tp.truncated
      lastSerial := s.ft.nextSerial, lastMode := s.completed.map (·.mode) }
    ft := { s.ft with nextSerial := s.ft.nextSerial + 1 } }

/-- A frame start at which a STOP is carried out (R18, R27): the frame still EMITTING is truncated and counted, FRAME_MARK is
pulsed, and no frame is begun. -/
def stoppingStart (s : State) : State :=
  carryOutStop (pulseMark { s with tp := { s.tp with
    truncated := if s.tp.state = .emitting then s.tp.truncated + 1 else s.tp.truncated } })

/-- A frame start that begins a frame and the next assembly period (R16). -/
def emittingStart (s : State) : State :=
  beginAssembly (requestFrameStatus (pulseMark (beginEmission s)))

/-- What a frame start does, by the mode (R14, R16, R24, R27). -/
def handOver (s : State) : State :=
  match s.modes.mode with
  | .stopped => s
  | .starting => if s.modes.stage = .endedOk then openingStart s else pulseMark s
  | .running => if s.modes.pending = .stop then stoppingStart s else emittingStart s
  | .holding => if s.modes.pending = .stop then stoppingStart s else emittingStart s

/-- The cut-off that a frame start finds not yet made: the Frame Timer makes one in every assembly period (R15, R8). -/
def ensureCutOff (s : State) : State := if s.inAssembly && !s.ft.cutOffMade then cutOff s else s

/-- A frame start at time t, the Frame Timer's own state being set by the rule that takes it. -/
def takeStart (t : Nat) (timer : FrameTimer → FrameTimer) (changed : Bool) (s : State) : State :=
  let s := ensureCutOff s
  let s := raiseIf changed .clock { reachTime t s with ft := { timer s.ft with lastStart := some t } }
  handOver (applySource s)

/-- Whether the Frame Timer is timing in a state. -/
def FrameTimer.timingIn (st : TimerState) (f : FrameTimer) : Bool := f.timingFrom.isSome && f.state == st

/-- The next period a HOLDOVER expiry sets from the edge phase recorded (R12). -/
def nextPeriod (phase : Option Nat) : Nat :=
  match phase with
  | some t => if t < ms 24 then 49 else if t < ms 44 then 47 else 48
  | none => 48

/-- A rising edge on FRAME_IN (R9 to R12). -/
def frameInEdge (t : Nat) (s : State) : State :=
  if s.ft.timingIn .locked then
    if s.ft.lastStart.isNone || ms 44 ≤ t then takeStart (s.ft.base + t) id false s
    else { s with ft := { s.ft with spurious := s.ft.spurious + 1 } }
  else if s.ft.timingIn .holdover then
    if ms 44 ≤ t then
      takeStart (s.ft.base + t) (fun f => { f with state := .locked, edgePhase := none }) true s
    else { s with ft := { s.ft with edgePhase := some t } }
  else s

/-- The expiry of the INTERNAL period (R10). -/
def internalExpiry (s : State) : State :=
  if s.ft.timingIn .internal then takeStart (s.ft.base + ms 48) id false s else s

/-- The 52 ms deadline in LOCKED (R11). -/
def lockedDeadline (s : State) : State :=
  if s.ft.timingIn .locked then
    takeStart (s.ft.base + ms 52)
      (fun f => { f with state := .holdover, period := 48, edgePhase := none, holdovers := f.holdovers + 1 }) true s
  else s

/-- The expiry of a HOLDOVER period (R12). -/
def holdoverExpiry (s : State) : State :=
  if s.ft.timingIn .holdover then
    takeStart (s.ft.base + ms s.ft.period)
      (fun f => { f with period := nextPeriod f.edgePhase, edgePhase := none, holdovers := f.holdovers + 1 }) false s
  else s

/-- The next poll offset of the assembly period (R15, R61): 8, 16, 24 or 32 ms after its start, before its cut-off. -/
def pollOffset (s : State) : State :=
  if s.inAssembly && !s.ft.cutOffMade && s.ft.pollsMade < 4 then
    let s := reachTime (s.ft.base + ms (8 * (s.ft.pollsMade + 1)))
      { s with ft := { s.ft with pollsMade := s.ft.pollsMade + 1 } }
    pollSlots false s
  else s

/-- The cut-off of the assembly period, 40 ms after its start (R15): made once in each. -/
def timedCutOff (s : State) : State :=
  if s.inAssembly && !s.ft.cutOffMade then cutOff (reachTime (s.ft.base + ms 40) s) else s

/-- The frame source of a CONTROL write is stored; in STOPPED the Frame Timer follows at once (R13, R9, R20). -/
def selectSource (source : FrameSource) (s : State) : State :=
  let s := { s with regs := { s.regs with source := source } }
  if s.modes.mode == .stopped then
    { s with ft := { s.ft with source := source, state := timerStateOf source } }
  else s

/-- TX_READY changes (R17): while it was asserted the port sent bytes; the last byte is LAST_BYTE_SENT's. -/
def changeReady (level : Bool) (sent : Nat) (s : State) : State :=
  { s with tp := { s.tp with
      ready := level
      position := if s.tp.state = .emitting ∧ s.tp.ready = true then min (s.tp.position + sent) Config.lastBytePosition
        else s.tp.position } }

/-- The last byte of the frame is sent (R17, R18): SENT, or the end is reported to a STOP that waits.
DESIGN CHOICE, log entry 29: in SENT, where no byte is next, the position is the last byte's. -/
def lastByteSent (s : State) : State :=
  if s.tp.state = .emitting ∧ s.tp.ready = true then
    if s.modes.pending = .stop then carryOutStop s
    else { s with tp := { s.tp with state := .sent, position := Config.lastBytePosition } }
  else s

end Sys2Proof.Machine
end

