-- ==== Sys2Proof/Machine/Port.lean ====
section
/-! DEFINITION. The ends of transfers (11.3), promotion and the quiet time, and the completion of a root poll (2.3). -/

namespace Sys2Proof.Machine

/-! ### Root polls (R33, R34) -/

/-- A root poll ignored (R33). -/
def ignorePoll (s : State) : State := { s with cp := { s.cp with ignores := s.cp.ignores + 1 } }

/-- The sequences that a root control area carries (R34). -/
def RootValues.sequences (v : RootValues) : SeenSequences := { plan := v.planSeq, cell := v.cellSeq, standby := v.standbySeq }

/-- The requests of an accepted poll handed to their owners, by the sequences seen before it (R34). -/
def handRequests (old : SeenSequences) (v : RootValues) (s : State) : State :=
  let s := if v.planSeq = old.plan then s else planRequest v.planAddr s
  let s := if v.cellSeq = old.cell then s else alertCell v s
  if v.standbySeq = old.standby then s else standbyRequest v s

/-- A root poll accepted (R33, R34, R148): the values are visible before the owners act on the requests. -/
def acceptPoll (v : RootValues) (s : State) : State :=
  handRequests (s.cp.seen.getD v.sequences) v
    (applyRate v.rateCode { s with cp := { s.cp with accepted := some v, seen := some v.sequences } })

/-- The completion of a root poll (R33). -/
def rootPollDone (o : TransferOutcome) (s : State) : State :=
  let s := { s with cp := { s.cp with poll := .none } }
  match o with
  | .data bytes => if slice bytes 0 4 = rootSignature then acceptPoll (rootValues bytes) s else ignorePoll s
  | .error => ignorePoll s
  | .timeout => ignorePoll s

/-! ### The end of a transfer (R189 to R191) -/

/-- The owner takes an outcome by the rule of the request's purpose (R183). -/
def ownerTakes (p : Purpose) (o : TransferOutcome) (s : State) : State :=
  match p with
  | .rootRead => rootReadDone o s
  | .rootPoll => rootPollDone o s
  | .planLoad => planTransferDone o s
  | .status => statusTransferDone o s
  | .slotHeader key => slotHeaderDone key o s
  | .slotPayload key => payloadBurstDone key o s
  | .slotConfirm key => confirmDone key o s
  | .labelPoll sid => labelPollDone sid o s
  | .labelFetch sid => labelFetchDone sid o s
  | .listHeader sid => pictureHeaderDone sid o s
  | .listEntry sid => pictureEntryDone sid o s
  | .refillRecord sid => refillRecordDone sid o s
  | .refillData sid => refillDataDone sid o s
  | .alertText => alertTextDone o s
  | .standby => standbyDone o s

/-- A slot made FREE (R186). -/
def releaseSlot (i : Fin 8) (s : State) : State := { s with mp := { s.mp with slots := s.mp.slots.set i none } }

/-- The count of a failed transfer, with FAULT raised, for withdrawn ones too (R191). -/
def countEnd (o : TransferOutcome) (s : State) : State :=
  match o with
  | .data _ => s
  | .error => raise .fault { s with mp := { s.mp with faults := satInc Config.max32 s.mp.faults } }
  | .timeout => raise .fault { s with mp := { s.mp with timeouts := satInc Config.max32 s.mp.timeouts } }

/-- The outcome as the owner takes it (R183): a READ has all its bytes, a WRITE has none. -/
def deliveredOutcome (draw : Nat) (r : Request) (o : TransferOutcome) : TransferOutcome :=
  match o with
  | .data bytes => if r.data.isSome then .data [] else .data (deliver draw r.len bytes)
  | .error => .error
  | .timeout => .timeout

/-- Whether a response leaves out bytes of a READ, for which free values are drawn. -/
def isShort (r : Request) (o : TransferOutcome) : Bool :=
  match o with
  | .data bytes => r.data.isNone && bytes.length < r.len
  | .error => false
  | .timeout => false

/-- The outcome handed to the owner, whose requests enter the list before the freed slot is granted (R189). -/
def handOutcome (r : Request) (o : TransferOutcome) (s : State) : State :=
  let s' := ownerTakes r.purpose (deliveredOutcome s.freeDraws r o)
    { s with
      freeDraws := if isShort r o then s.freeDraws + 1 else s.freeDraws
      mp := { s.mp with completing := true } }
  { s' with mp := { s'.mp with completing := false } }

/-- The transfer in a slot ends with an outcome (R189, R190, R191); a withdrawn one is discarded. A timeout is 4 ms after its
grant. No effect on a FREE slot. -/
def completeSlot (i : Fin 8) (o : TransferOutcome) (s : State) : State :=
  match s.mp.slots[i] with
  | none => s
  | some f =>
    let s := if o = .timeout then reachTime (f.grantTime + ms 4) s else s
    let s := countEnd o (releaseSlot i s)
    if f.withdrawn then s else handOutcome f.request o s

/-- The slot of the transfer of a purpose that is in flight and not withdrawn. -/
def MemoryPort.slotOf (m : MemoryPort) (p : Purpose) : Option (Fin 8) :=
  (List.finRange 8).find? (fun i => (m.slots[i].map (fun f => !f.withdrawn && f.request.purpose == p)).getD false)

/-- The transfer of a purpose completes; no effect when none is in flight. -/
def completePurpose (p : Purpose) (o : TransferOutcome) (s : State) : State :=
  match s.mp.slotOf p with
  | some i => completeSlot i o s
  | none => s

/-- A bus response (R189): it ends the transfer of its slot when the grant numbers are equal, and is ignored otherwise. -/
def busResponse (i : Fin 8) (grant : BitVec 8) (o : BusOutcome) (s : State) : State :=
  match s.mp.slots[i] with
  | some f => if f.grant = grant then completeSlot i (toTransfer o) s else s
  | none => s

/-! ### Promotion and the quiet time (R188, R193) -/

/-- The oldest waiting BULK request is promoted to CONTROL, 12 ms after its entry (R188). -/
def promoteBulk (s : State) : State :=
  match oldestOf .bulk s.mp.waiting with
  | some k =>
    match s.mp.waiting[k]? with
    | some r =>
      reachTime (r.entry + ms 12) { s with mp := { s.mp with waiting := s.mp.waiting.set k { r with cls := .control } } }
    | none => s
  | none => s

/-- The quiet time after a reset ends, and grants are made (R193). -/
def endQuiet (s : State) : State :=
  match s.mp.quietEnd with
  | some t => grantAll (reachTime t { s with mp := { s.mp with quietEnd := none } })
  | none => s

end Sys2Proof.Machine
end

