-- ==== Sys2Proof/Machine/HostCommands.lean ====
section
/-! DEFINITION. The meanings of the host's commands: the resets and the accesses of the register port (chapter 2). -/

namespace Sys2Proof.Machine

/-- What a command of the part answers: the next state, in every case. -/
abbrev Result := Host.Outcome State Fault Refusal

/-- POWER_ON_RESET (R28). -/
def execPowerOnReset (s : State) : Result := .next (powerOn s)

/-- SOFT_RESET (R29): the other fields of the word written are ignored (R20). -/
def execSoftReset (_word : BitVec 32) (s : State) : Result := .next (softReset s)

/-- MODE_REQUEST_RUN (R21, R22). -/
def execModeRequestRun (s : State) : Result := .next (requestRun s)

/-- MODE_REQUEST_HOLD (R21). -/
def execModeRequestHold (s : State) : Result := .next (requestHold s)

/-- MODE_REQUEST_STOP (R21, R23, R27). -/
def execModeRequestStop (s : State) : Result := .next (requestStop s)

/-- FRAME_SOURCE_SELECT (R13, R20). -/
def execFrameSourceSelect (source : FrameSource) (s : State) : Result := .next (selectSource source s)

/-- FRAME_MARK_ENABLE (R19, R20): stored; read at each frame start. -/
def execFrameMarkEnable (on : Bool) (s : State) : Result := .next { s with regs := { s.regs with markEnable := on } }

/-- The register of the root address written (R30): the bits of ROOT_HI above 7 set nothing (R195). -/
def Registers.writeRoot (reg : RootRegister) (value : BitVec 32) (r : Registers) : Registers :=
  match reg with
  | .rootLo => { r with rootLo := value }
  | .rootHi => { r with rootHi := value.setWidth 8 }

/-- ROOT_ADDRESS_WRITE (R30): stored in STOPPED, ignored in any other mode. -/
def execRootAddressWrite (reg : RootRegister) (value : BitVec 32) (s : State) : Result :=
  .next (if s.modes.mode = .stopped then { s with regs := s.regs.writeRoot reg value } else s)

/-- CAUSE_MASK_WRITE (R32): bits that no field occupies set nothing (R195). -/
def execCauseMaskWrite (value : BitVec 32) (s : State) : Result :=
  .next { s with sw := { s.sw with mask := value.setWidth 10 } }

/-- CAUSE_READ (R32): the read returns the bits set and clears exactly those. -/
def execCauseRead (s : State) : Result :=
  .next (readRegister .cause s)

/-- REGISTER_WRITE (R30): a write to a register that has no write behaviour is ignored. -/
def execRegisterWrite (_reg : ReadOnlyRegister) (_value : BitVec 32) (s : State) : Result := .next s

end Sys2Proof.Machine
end

