-- ==== Sys2Proof/Machine/FrameCommands.lean ====
section
/-! DEFINITION. The meanings of the frame's events: the Frame Timer, the Transport Port, and the timers that packings
count (chapters 1, 6 and 7). -/

namespace Sys2Proof.Machine

/-- FRAME_IN_EDGE (R9, R11, R12). -/
def execFrameInEdge (t : Nat) (s : State) : Result := .next (frameInEdge t s)

/-- INTERNAL_PERIOD_EXPIRY (R10). -/
def execInternalPeriodExpiry (s : State) : Result := .next (internalExpiry s)

/-- LOCKED_DEADLINE (R11). -/
def execLockedDeadline (s : State) : Result := .next (lockedDeadline s)

/-- HOLDOVER_PERIOD_EXPIRY (R12). -/
def execHoldoverPeriodExpiry (s : State) : Result := .next (holdoverExpiry s)

/-- TX_READY_CHANGE (R17). -/
def execTxReadyChange (level : Bool) (sent : Nat) (s : State) : Result := .next (changeReady level sent s)

/-- LAST_BYTE_SENT (R17, R18). -/
def execLastByteSent (s : State) : Result := .next (lastByteSent s)

/-- POLL_OFFSET (R15, R61). -/
def execPollOffset (s : State) : Result := .next (pollOffset s)

/-- CUT_OFF (R15). -/
def execCutOff (s : State) : Result := .next (timedCutOff s)

/-- LABEL_STEP_TIMER_EXPIRY (R110). -/
def execLabelStepTimerExpiry (sid : U16) (s : State) : Result := .next (labelStepTimerExpiry sid s)

/-- ALERT_STEP_TIMER_EXPIRY (R114). -/
def execAlertStepTimerExpiry (sid : U16) (s : State) : Result := .next (alertStepTimerExpiry sid s)

/-- DWELL_TIMER_EXPIRY (R129). -/
def execDwellTimerExpiry (sid : U16) (s : State) : Result := .next (dwellTimerExpiry sid s)

end Sys2Proof.Machine
end

