-- ==== Sys2Proof/Machine/LineCommands.lean ====
section
/-! DEFINITION. The meanings of the events of the warning line (chapter 9). -/

namespace Sys2Proof.Machine

/-- LINE_BYTE_COMPLETE (R150, R151). -/
def execLineByteComplete (samples : ByteSamples) (s : State) : Result := .next (byteComplete samples s)

/-- BREAK_WAIT_END (R151). -/
def execBreakWaitEnd (s : State) : Result := .next (breakWaitEnd s)

/-- IDLE_MARKER (R152). -/
def execIdleMarker (s : State) : Result := .next (idleMarker s)

/-- PARSER_TAKE_ENTRY (R157 to R160). -/
def execParserTakeEntry (s : State) : Result := .next (takeEntry s)

/-- LINE_FALLING_EDGE (R149). -/
def execLineFallingEdge (hunted : Nat) (s : State) : Result := .next (fallingEdge hunted s)

/-- START_BIT_SAMPLE (R149). -/
def execStartBitSample (samples : BitSamples) (s : State) : Result := .next (startBit samples s)

end Sys2Proof.Machine
end

