-- ==== Sys2Proof/Machine/PortCommands.lean ====
section
/-! DEFINITION. The meanings of the events of the Memory Port (chapter 11). -/

namespace Sys2Proof.Machine

/-- TRANSFER_GRANT (R187). -/
def execTransferGrant (s : State) : Result := .next (grantOne s)

/-- BULK_PROMOTION (R188). -/
def execBulkPromotion (s : State) : Result := .next (promoteBulk s)

/-- TRANSFER_RESPONSE (R189). -/
def execTransferResponse (slot : Fin 8) (grant : BitVec 8) (outcome : BusOutcome) (s : State) : Result :=
  .next (busResponse slot grant outcome s)

/-- STALE_RESPONSE (R189, R190): a response is judged by the slot as it then stands, whatever transfer it answers. -/
def execStaleResponse (slot : Fin 8) (grant : BitVec 8) (outcome : BusOutcome) (s : State) : Result :=
  .next (busResponse slot grant outcome s)

/-- TRANSFER_TIMEOUT (R190). -/
def execTransferTimeout (slot : Fin 8) (s : State) : Result := .next (completeSlot slot .timeout s)

/-- QUIET_TIME_END (R193). -/
def execQuietTimeEnd (s : State) : Result := .next (endQuiet s)

end Sys2Proof.Machine
end

