-- ==== Sys2Proof/Machine/TransferCommands.lean ====
section
/-! DEFINITION. The meanings of the ends of the owners' transfers: the transfer completes at the port and its owner takes
the outcome, as one event (R189). -/

namespace Sys2Proof.Machine

/-- ROOT_READ_DONE (R23). -/
def execRootReadDone (o : TransferOutcome) (s : State) : Result := .next (completePurpose .rootRead o s)

/-- ROOT_POLL_DONE (R33, R34). -/
def execRootPollDone (o : TransferOutcome) (s : State) : Result := .next (completePurpose .rootPoll o s)

/-- PLAN_LOAD_TRANSFER_DONE (R41). -/
def execPlanLoadTransferDone (o : TransferOutcome) (s : State) : Result := .next (completePurpose .planLoad o s)

/-- STATUS_TRANSFER_DONE (R36). -/
def execStatusTransferDone (o : TransferOutcome) (s : State) : Result := .next (completePurpose .status o s)

/-- SLOT_HEADER_READ_DONE (R62). -/
def execSlotHeaderReadDone (key : SlotKey) (o : TransferOutcome) (s : State) : Result :=
  .next (completePurpose (.slotHeader key) o s)

/-- PAYLOAD_BURST_DONE (R63). -/
def execPayloadBurstDone (key : SlotKey) (o : TransferOutcome) (s : State) : Result :=
  .next (completePurpose (.slotPayload key) o s)

/-- CONFIRM_READ_DONE (R64). -/
def execConfirmReadDone (key : SlotKey) (o : TransferOutcome) (s : State) : Result :=
  .next (completePurpose (.slotConfirm key) o s)

/-- LABEL_POLL_DONE (R102). -/
def execLabelPollDone (sid : U16) (o : TransferOutcome) (s : State) : Result := .next (completePurpose (.labelPoll sid) o s)

/-- LABEL_FETCH_DONE (R103). -/
def execLabelFetchDone (sid : U16) (o : TransferOutcome) (s : State) : Result :=
  .next (completePurpose (.labelFetch sid) o s)

/-- PICTURE_HEADER_READ_DONE (R121). -/
def execPictureHeaderReadDone (sid : U16) (o : TransferOutcome) (s : State) : Result :=
  .next (completePurpose (.listHeader sid) o s)

/-- PICTURE_ENTRY_READ_DONE (R122). -/
def execPictureEntryReadDone (sid : U16) (o : TransferOutcome) (s : State) : Result :=
  .next (completePurpose (.listEntry sid) o s)

/-- REFILL_RECORD_DONE (R124). -/
def execRefillRecordDone (sid : U16) (o : TransferOutcome) (s : State) : Result :=
  .next (completePurpose (.refillRecord sid) o s)

/-- REFILL_DATA_DONE (R125). -/
def execRefillDataDone (sid : U16) (o : TransferOutcome) (s : State) : Result :=
  .next (completePurpose (.refillData sid) o s)

/-- ALERT_TEXT_READ_DONE (R164). -/
def execAlertTextReadDone (o : TransferOutcome) (s : State) : Result := .next (completePurpose .alertText o s)

/-- STANDBY_TRANSFER_DONE (R181). -/
def execStandbyTransferDone (o : TransferOutcome) (s : State) : Result := .next (completePurpose .standby o s)

end Sys2Proof.Machine
end

