-- ==== Sys2Proof/Machine/Dispatch.lean ====
section
/-! DEFINITION. One arm for each command: its effect on everything but the queue of waiting commands. -/

namespace Sys2Proof.Machine

def exec (i : Instr) (s : State) : Host.Outcome State Fault Refusal :=
  match i with
  | .powerOnReset => Sys2Proof.Machine.execPowerOnReset s
  | .softReset word => Sys2Proof.Machine.execSoftReset word s
  | .modeRequestRun => Sys2Proof.Machine.execModeRequestRun s
  | .modeRequestHold => Sys2Proof.Machine.execModeRequestHold s
  | .modeRequestStop => Sys2Proof.Machine.execModeRequestStop s
  | .frameSourceSelect source => Sys2Proof.Machine.execFrameSourceSelect source s
  | .frameMarkEnable on => Sys2Proof.Machine.execFrameMarkEnable on s
  | .rootAddressWrite reg value => Sys2Proof.Machine.execRootAddressWrite reg value s
  | .causeMaskWrite value => Sys2Proof.Machine.execCauseMaskWrite value s
  | .causeRead => Sys2Proof.Machine.execCauseRead s
  | .registerWrite reg value => Sys2Proof.Machine.execRegisterWrite reg value s
  | .frameInEdge t => Sys2Proof.Machine.execFrameInEdge t s
  | .internalPeriodExpiry => Sys2Proof.Machine.execInternalPeriodExpiry s
  | .lockedDeadline => Sys2Proof.Machine.execLockedDeadline s
  | .holdoverPeriodExpiry => Sys2Proof.Machine.execHoldoverPeriodExpiry s
  | .txReadyChange level sent => Sys2Proof.Machine.execTxReadyChange level sent s
  | .lastByteSent => Sys2Proof.Machine.execLastByteSent s
  | .pollOffset => Sys2Proof.Machine.execPollOffset s
  | .cutOff => Sys2Proof.Machine.execCutOff s
  | .labelStepTimerExpiry sid => Sys2Proof.Machine.execLabelStepTimerExpiry sid s
  | .alertStepTimerExpiry sid => Sys2Proof.Machine.execAlertStepTimerExpiry sid s
  | .dwellTimerExpiry sid => Sys2Proof.Machine.execDwellTimerExpiry sid s
  | .rootReadDone outcome => Sys2Proof.Machine.execRootReadDone outcome s
  | .rootPollDone outcome => Sys2Proof.Machine.execRootPollDone outcome s
  | .planLoadTransferDone outcome => Sys2Proof.Machine.execPlanLoadTransferDone outcome s
  | .statusTransferDone outcome => Sys2Proof.Machine.execStatusTransferDone outcome s
  | .slotHeaderReadDone key outcome => Sys2Proof.Machine.execSlotHeaderReadDone key outcome s
  | .payloadBurstDone key outcome => Sys2Proof.Machine.execPayloadBurstDone key outcome s
  | .confirmReadDone key outcome => Sys2Proof.Machine.execConfirmReadDone key outcome s
  | .labelPollDone sid outcome => Sys2Proof.Machine.execLabelPollDone sid outcome s
  | .labelFetchDone sid outcome => Sys2Proof.Machine.execLabelFetchDone sid outcome s
  | .pictureHeaderReadDone sid outcome => Sys2Proof.Machine.execPictureHeaderReadDone sid outcome s
  | .pictureEntryReadDone sid outcome => Sys2Proof.Machine.execPictureEntryReadDone sid outcome s
  | .refillRecordDone sid outcome => Sys2Proof.Machine.execRefillRecordDone sid outcome s
  | .refillDataDone sid outcome => Sys2Proof.Machine.execRefillDataDone sid outcome s
  | .alertTextReadDone outcome => Sys2Proof.Machine.execAlertTextReadDone outcome s
  | .standbyTransferDone outcome => Sys2Proof.Machine.execStandbyTransferDone outcome s
  | .lineByteComplete samples => Sys2Proof.Machine.execLineByteComplete samples s
  | .breakWaitEnd => Sys2Proof.Machine.execBreakWaitEnd s
  | .idleMarker => Sys2Proof.Machine.execIdleMarker s
  | .parserTakeEntry => Sys2Proof.Machine.execParserTakeEntry s
  | .transferGrant => Sys2Proof.Machine.execTransferGrant s
  | .bulkPromotion => Sys2Proof.Machine.execBulkPromotion s
  | .transferResponse slot grant outcome => Sys2Proof.Machine.execTransferResponse slot grant outcome s
  | .staleResponse slot grant outcome => Sys2Proof.Machine.execStaleResponse slot grant outcome s
  | .transferTimeout slot => Sys2Proof.Machine.execTransferTimeout slot s
  | .quietTimeEnd => Sys2Proof.Machine.execQuietTimeEnd s
  | .lineFallingEdge hunted => Sys2Proof.Machine.execLineFallingEdge hunted s
  | .startBitSample samples => Sys2Proof.Machine.execStartBitSample samples s

end Sys2Proof.Machine
end

