-- ==== Sys2Proof/WellFormed.lean ====
section
/-! DEFINITION. What makes a command well formed: its operands are ones that the port it comes from can carry.
exec is total and answers on ill-formed commands too. -/

namespace Sys2Proof

/-- A burst has at most 256 bytes (R183), so no response carries more. -/
def TransferOutcome.wellFormed : TransferOutcome → Bool
  | .data bytes => bytes.length ≤ 256
  | .error => true
  | .timeout => true

/-- A burst has at most 256 bytes (R183), so no response carries more. -/
def BusOutcome.wellFormed : BusOutcome → Bool
  | .data bytes => bytes.length ≤ 256
  | .error => true

/-- The check of every command. -/
def Instr.wellFormed : Instr → Bool
  | .powerOnReset => true
  | .softReset word => word.getLsbD 8
  | .modeRequestRun => true
  | .modeRequestHold => true
  | .modeRequestStop => true
  | .frameSourceSelect _ => true
  | .frameMarkEnable _ => true
  | .rootAddressWrite _ _ => true
  | .causeMaskWrite _ => true
  | .causeRead => true
  | .registerWrite _ _ => true
  | .frameInEdge _ => true
  | .internalPeriodExpiry => true
  | .lockedDeadline => true
  | .holdoverPeriodExpiry => true
  | .txReadyChange _ sent => sent ≤ Config.lastBytePosition
  | .lastByteSent => true
  | .pollOffset => true
  | .cutOff => true
  | .labelStepTimerExpiry _ => true
  | .alertStepTimerExpiry _ => true
  | .dwellTimerExpiry _ => true
  | .rootReadDone o => o.wellFormed
  | .rootPollDone o => o.wellFormed
  | .planLoadTransferDone o => o.wellFormed
  | .statusTransferDone o => o.wellFormed
  | .slotHeaderReadDone _ o => o.wellFormed
  | .payloadBurstDone _ o => o.wellFormed
  | .confirmReadDone _ o => o.wellFormed
  | .labelPollDone _ o => o.wellFormed
  | .labelFetchDone _ o => o.wellFormed
  | .pictureHeaderReadDone _ o => o.wellFormed
  | .pictureEntryReadDone _ o => o.wellFormed
  | .refillRecordDone _ o => o.wellFormed
  | .refillDataDone _ o => o.wellFormed
  | .alertTextReadDone o => o.wellFormed
  | .standbyTransferDone o => o.wellFormed
  | .lineByteComplete _ => true
  | .breakWaitEnd => true
  | .idleMarker => true
  | .parserTakeEntry => true
  | .transferGrant => true
  | .bulkPromotion => true
  | .transferResponse _ _ o => o.wellFormed
  | .staleResponse _ _ o => o.wellFormed
  | .transferTimeout _ => true
  | .quietTimeEnd => true
  | .lineFallingEdge _ => true
  | .startBitSample _ => true

end Sys2Proof
end

