-- ==== Sys2Proof/Laws/PerInstr.lean ====
section
/-! SUPPORT. Statements about every command as syntax, made per command. -/

namespace Sys2Proof.Laws

/-- The bytes that an outcome carries. -/
def outcomeBytes : TransferOutcome → List Byte
  | .data bytes => bytes
  | .error => []
  | .timeout => []

/-- The bytes that a bus response carries. -/
def busBytes : BusOutcome → List Byte
  | .data bytes => bytes
  | .error => []

/-- The bytes that a command brings in from shared memory: none, but for the ends of transfers. -/
def carriedBytes : Instr → List Byte
  | .powerOnReset => []
  | .softReset _ => []
  | .modeRequestRun => []
  | .modeRequestHold => []
  | .modeRequestStop => []
  | .frameSourceSelect _ => []
  | .frameMarkEnable _ => []
  | .rootAddressWrite _ _ => []
  | .causeMaskWrite _ => []
  | .causeRead => []
  | .registerWrite _ _ => []
  | .frameInEdge _ => []
  | .internalPeriodExpiry => []
  | .lockedDeadline => []
  | .holdoverPeriodExpiry => []
  | .txReadyChange _ _ => []
  | .lastByteSent => []
  | .pollOffset => []
  | .cutOff => []
  | .labelStepTimerExpiry _ => []
  | .alertStepTimerExpiry _ => []
  | .dwellTimerExpiry _ => []
  | .rootReadDone outcome => outcomeBytes outcome
  | .rootPollDone outcome => outcomeBytes outcome
  | .planLoadTransferDone outcome => outcomeBytes outcome
  | .statusTransferDone outcome => outcomeBytes outcome
  | .slotHeaderReadDone _ outcome => outcomeBytes outcome
  | .payloadBurstDone _ outcome => outcomeBytes outcome
  | .confirmReadDone _ outcome => outcomeBytes outcome
  | .labelPollDone _ outcome => outcomeBytes outcome
  | .labelFetchDone _ outcome => outcomeBytes outcome
  | .pictureHeaderReadDone _ outcome => outcomeBytes outcome
  | .pictureEntryReadDone _ outcome => outcomeBytes outcome
  | .refillRecordDone _ outcome => outcomeBytes outcome
  | .refillDataDone _ outcome => outcomeBytes outcome
  | .alertTextReadDone outcome => outcomeBytes outcome
  | .standbyTransferDone outcome => outcomeBytes outcome
  | .lineByteComplete _ => []
  | .breakWaitEnd => []
  | .idleMarker => []
  | .parserTakeEntry => []
  | .transferGrant => []
  | .bulkPromotion => []
  | .transferResponse _ _ outcome => busBytes outcome
  | .staleResponse _ _ outcome => busBytes outcome
  | .transferTimeout _ => []
  | .quietTimeEnd => []
  | .lineFallingEdge _ => []
  | .startBitSample _ => []

theorem outcomeBytes_le (o : TransferOutcome) (h : o.wellFormed = true) : (outcomeBytes o).length ≤ 256 := by
  cases o <;> simp_all [outcomeBytes, TransferOutcome.wellFormed]

theorem busBytes_le (o : BusOutcome) (h : o.wellFormed = true) : (busBytes o).length ≤ 256 := by
  cases o <;> simp_all [busBytes, BusOutcome.wellFormed]

/-- A well-formed command brings in at most one burst, 256 bytes (R183). -/
def WithinBurst.Statement (i : Instr) : Prop := i.wellFormed = true → (carriedBytes i).length ≤ 256

theorem WithinBurst.powerOnReset : WithinBurst.Statement (.powerOnReset) :=
  fun _ => Nat.zero_le _

theorem WithinBurst.softReset : ∀ word, WithinBurst.Statement (.softReset word) :=
  fun _ _ => Nat.zero_le _

theorem WithinBurst.modeRequestRun : WithinBurst.Statement (.modeRequestRun) :=
  fun _ => Nat.zero_le _

theorem WithinBurst.modeRequestHold : WithinBurst.Statement (.modeRequestHold) :=
  fun _ => Nat.zero_le _

theorem WithinBurst.modeRequestStop : WithinBurst.Statement (.modeRequestStop) :=
  fun _ => Nat.zero_le _

theorem WithinBurst.frameSourceSelect : ∀ source, WithinBurst.Statement (.frameSourceSelect source) :=
  fun _ _ => Nat.zero_le _

theorem WithinBurst.frameMarkEnable : ∀ on, WithinBurst.Statement (.frameMarkEnable on) :=
  fun _ _ => Nat.zero_le _

theorem WithinBurst.rootAddressWrite : ∀ reg value, WithinBurst.Statement (.rootAddressWrite reg value) :=
  fun _ _ _ => Nat.zero_le _

theorem WithinBurst.causeMaskWrite : ∀ value, WithinBurst.Statement (.causeMaskWrite value) :=
  fun _ _ => Nat.zero_le _

theorem WithinBurst.causeRead : WithinBurst.Statement (.causeRead) :=
  fun _ => Nat.zero_le _

theorem WithinBurst.registerWrite : ∀ reg value, WithinBurst.Statement (.registerWrite reg value) :=
  fun _ _ _ => Nat.zero_le _

theorem WithinBurst.frameInEdge : ∀ t, WithinBurst.Statement (.frameInEdge t) :=
  fun _ _ => Nat.zero_le _

theorem WithinBurst.internalPeriodExpiry : WithinBurst.Statement (.internalPeriodExpiry) :=
  fun _ => Nat.zero_le _

theorem WithinBurst.lockedDeadline : WithinBurst.Statement (.lockedDeadline) :=
  fun _ => Nat.zero_le _

theorem WithinBurst.holdoverPeriodExpiry : WithinBurst.Statement (.holdoverPeriodExpiry) :=
  fun _ => Nat.zero_le _

theorem WithinBurst.txReadyChange : ∀ level sent, WithinBurst.Statement (.txReadyChange level sent) :=
  fun _ _ _ => Nat.zero_le _

theorem WithinBurst.lastByteSent : WithinBurst.Statement (.lastByteSent) :=
  fun _ => Nat.zero_le _

theorem WithinBurst.pollOffset : WithinBurst.Statement (.pollOffset) :=
  fun _ => Nat.zero_le _

theorem WithinBurst.cutOff : WithinBurst.Statement (.cutOff) :=
  fun _ => Nat.zero_le _

theorem WithinBurst.labelStepTimerExpiry : ∀ sid, WithinBurst.Statement (.labelStepTimerExpiry sid) :=
  fun _ _ => Nat.zero_le _

theorem WithinBurst.alertStepTimerExpiry : ∀ sid, WithinBurst.Statement (.alertStepTimerExpiry sid) :=
  fun _ _ => Nat.zero_le _

theorem WithinBurst.dwellTimerExpiry : ∀ sid, WithinBurst.Statement (.dwellTimerExpiry sid) :=
  fun _ _ => Nat.zero_le _

theorem WithinBurst.rootReadDone : ∀ outcome, WithinBurst.Statement (.rootReadDone outcome) :=
  fun outcome h => outcomeBytes_le outcome h

theorem WithinBurst.rootPollDone : ∀ outcome, WithinBurst.Statement (.rootPollDone outcome) :=
  fun outcome h => outcomeBytes_le outcome h

theorem WithinBurst.planLoadTransferDone : ∀ outcome, WithinBurst.Statement (.planLoadTransferDone outcome) :=
  fun outcome h => outcomeBytes_le outcome h

theorem WithinBurst.statusTransferDone : ∀ outcome, WithinBurst.Statement (.statusTransferDone outcome) :=
  fun outcome h => outcomeBytes_le outcome h

theorem WithinBurst.slotHeaderReadDone : ∀ key outcome, WithinBurst.Statement (.slotHeaderReadDone key outcome) :=
  fun _ outcome h => outcomeBytes_le outcome h

theorem WithinBurst.payloadBurstDone : ∀ key outcome, WithinBurst.Statement (.payloadBurstDone key outcome) :=
  fun _ outcome h => outcomeBytes_le outcome h

theorem WithinBurst.confirmReadDone : ∀ key outcome, WithinBurst.Statement (.confirmReadDone key outcome) :=
  fun _ outcome h => outcomeBytes_le outcome h

theorem WithinBurst.labelPollDone : ∀ sid outcome, WithinBurst.Statement (.labelPollDone sid outcome) :=
  fun _ outcome h => outcomeBytes_le outcome h

theorem WithinBurst.labelFetchDone : ∀ sid outcome, WithinBurst.Statement (.labelFetchDone sid outcome) :=
  fun _ outcome h => outcomeBytes_le outcome h

theorem WithinBurst.pictureHeaderReadDone : ∀ sid outcome, WithinBurst.Statement (.pictureHeaderReadDone sid outcome) :=
  fun _ outcome h => outcomeBytes_le outcome h

theorem WithinBurst.pictureEntryReadDone : ∀ sid outcome, WithinBurst.Statement (.pictureEntryReadDone sid outcome) :=
  fun _ outcome h => outcomeBytes_le outcome h

theorem WithinBurst.refillRecordDone : ∀ sid outcome, WithinBurst.Statement (.refillRecordDone sid outcome) :=
  fun _ outcome h => outcomeBytes_le outcome h

theorem WithinBurst.refillDataDone : ∀ sid outcome, WithinBurst.Statement (.refillDataDone sid outcome) :=
  fun _ outcome h => outcomeBytes_le outcome h

theorem WithinBurst.alertTextReadDone : ∀ outcome, WithinBurst.Statement (.alertTextReadDone outcome) :=
  fun outcome h => outcomeBytes_le outcome h

theorem WithinBurst.standbyTransferDone : ∀ outcome, WithinBurst.Statement (.standbyTransferDone outcome) :=
  fun outcome h => outcomeBytes_le outcome h

theorem WithinBurst.lineByteComplete : ∀ samples, WithinBurst.Statement (.lineByteComplete samples) :=
  fun _ _ => Nat.zero_le _

theorem WithinBurst.breakWaitEnd : WithinBurst.Statement (.breakWaitEnd) :=
  fun _ => Nat.zero_le _

theorem WithinBurst.idleMarker : WithinBurst.Statement (.idleMarker) :=
  fun _ => Nat.zero_le _

theorem WithinBurst.parserTakeEntry : WithinBurst.Statement (.parserTakeEntry) :=
  fun _ => Nat.zero_le _

theorem WithinBurst.transferGrant : WithinBurst.Statement (.transferGrant) :=
  fun _ => Nat.zero_le _

theorem WithinBurst.bulkPromotion : WithinBurst.Statement (.bulkPromotion) :=
  fun _ => Nat.zero_le _

theorem WithinBurst.transferResponse : ∀ slot grant outcome, WithinBurst.Statement (.transferResponse slot grant outcome) :=
  fun _ _ outcome h => busBytes_le outcome h

theorem WithinBurst.staleResponse : ∀ slot grant outcome, WithinBurst.Statement (.staleResponse slot grant outcome) :=
  fun _ _ outcome h => busBytes_le outcome h

theorem WithinBurst.transferTimeout : ∀ slot, WithinBurst.Statement (.transferTimeout slot) :=
  fun _ _ => Nat.zero_le _

theorem WithinBurst.quietTimeEnd : WithinBurst.Statement (.quietTimeEnd) :=
  fun _ => Nat.zero_le _

theorem WithinBurst.lineFallingEdge : ∀ hunted, WithinBurst.Statement (.lineFallingEdge hunted) :=
  fun _ _ => Nat.zero_le _

theorem WithinBurst.startBitSample : ∀ samples, WithinBurst.Statement (.startBitSample samples) :=
  fun _ _ => Nat.zero_le _

end Sys2Proof.Laws
end

