-- ==== Sys2Proof/Safety.lean ====
section
/-! DEFINITION. What the spec promises of the part at all times: the conditions that every command keeps, in the terms the
statements use. -/

namespace Sys2Proof.Machine

/-- The Receive FIFO never holds more than 32 entries (R153). -/
def FifoBounded (s : State) : Prop := s.alr.fifo.length ≤ 32

/-- The identity of a queue entry: its source and alert id (R167). -/
def AlertEntry.key (e : AlertEntry) : AlertSource × Byte := (e.source, e.alertId)

/-- The Alert Queue as R167 promises it: at most four entries, in order of level and then of insertion, at most one of them in a
state other than WAITING, and no two with the same source and alert id. The insertions are numbered by nextOrder. -/
structure QueueSound (a : AlertController) : Prop where
  atMostFour : a.queue.length ≤ 4
  inOrder    : a.queue.Pairwise (fun x y => y.level < x.level ∨ (x.level = y.level ∧ x.order < y.order))
  oneCurrent : (a.queue.filter (fun e => e.state != .waiting)).length ≤ 1
  distinct   : (a.queue.map AlertEntry.key).Nodup
  numbered   : (a.queue.map (·.order)).Nodup ∧ ∀ e ∈ a.queue, e.order < a.nextOrder

/-- Every credit counter lies between 0 and 8 times its quantum in force (R86). -/
def CreditsBounded (s : State) : Prop :=
  ∀ v ∈ s.services,
    v.annex.labelCredit ≤ 8 * v.annex.labelQuantum ∧ v.annex.pictureCredit ≤ 8 * v.annex.pictureQuantum

/-- A plan as R42 lets it enter a READY bank. -/
structure PlanSound (p : Plan) : Prop where
  count     : 1 ≤ p.entries.length ∧ p.entries.length ≤ 24
  ids       : ∀ e ∈ p.entries, 1 ≤ e.subId.toNat ∧ e.subId.toNat ≤ 63
  cells     : ∀ e ∈ p.entries, 4 ≤ e.cells ∧ e.cells ≤ 120 ∧ e.start + e.cells ≤ 600
  apart     : p.entries.Pairwise (fun a b => a.start + a.cells ≤ b.start)
  distinct  : (p.entries.map (·.subId)).Nodup ∧ (p.entries.map (·.sid)).Nodup
  rings     : ∀ e ∈ p.entries, 2 ≤ e.ringDepth ∧ e.ringDepth ≤ 64 ∧ e.ringBase.toNat % 64 = 0
  quanta    : ∀ e ∈ p.entries, e.labelQuantum ≤ 16383 ∧ e.pictureQuantum ≤ 16383

/-- Every READY bank holds a plan that passed validation (R42, R43). -/
def PlansSound (s : State) : Prop :=
  (∀ p, s.pm.active = .ready p → PlanSound p) ∧ (∀ p, s.pm.staged = .ready p → PlanSound p)

/-- A service is kept for each entry of the ACTIVE plan, in its order and under its service id, and for no other (R58, R79, R100,
R119), and the audio kept for it fits its field: its repeat buffer (R55, R69), and the payload that a slot header held names (R62). -/
structure ServicesSound (s : State) : Prop where
  followPlan  : ∀ p, s.pm.active = .ready p → s.services.map (·.sid) = p.entries.map (·.sid)
  repeatFits  : ∀ v ∈ s.services, ∀ e, s.entryOf v.sid = some e → ∀ b, v.contribution.repeatBuffer = some b →
    b.length ≤ 32 * e.cells - 2
  payloadFits : ∀ v ∈ s.services, ∀ e, s.entryOf v.sid = some e → ∀ r h, v.slot = some r → r.held = some h →
    h.silent = false → h.len ≤ 32 * e.cells - 2

/-- The countdown lies in 0..16, and while the plan state is COUNTDOWN or CANCELLING the STAGED bank holds the announced plan
(R40). -/
def CountdownSound (s : State) : Prop :=
  s.pm.countdown ≤ 16 ∧
    (s.pm.state = .countdown ∨ s.pm.state = .cancelling → s.pm.staged.isReady = true)

/-- STOPPED is at rest (R9, R21, R27, R40, R147, R162): no request waits, the Frame Timer does not time, the line is
disabled and its FIFO empty, nothing is held for the Alert Controller, no service is kept, the banks are EMPTY, and of the
transfers on the bus or in the list only the closing write-back's is not withdrawn. -/
structure StoppedAtRest (s : State) : Prop where
  noRequest  : s.modes.pending = .none
  timerStill : s.ft.timingFrom = none
  portIdle   : s.tp.state = .idle
  lineOff    : s.alr.state = .disabled ∧ s.alr.fifo = []
  parserOff  : s.tgp.state = .hunt ∧ s.tgp.hold = none
  queueEmpty : s.ac.queue = [] ∧ s.ac.cell = none
  noService  : s.services = []
  noPlan     : s.pm.active = .empty ∧ s.pm.staged = .empty ∧ s.pm.load = none
  noFrame    : s.completed = none
  waiting    : ∀ r ∈ s.mp.waiting, r.purpose = .status
  inFlight   : ∀ f, some f ∈ s.mp.slots.toList → f.withdrawn = false → f.request.purpose = .status

/-- In STOPPED the part is at rest. -/
def RestInStopped (s : State) : Prop := s.modes.mode = .stopped → StoppedAtRest s

/-- A request names 1 to 256 bytes (R183). -/
def Request.WithinBurst (r : Request) : Prop := 1 ≤ r.len ∧ r.len ≤ 256

/-- Every request waiting or in a slot names 1 to 256 bytes (R183). -/
def BurstsBounded (s : State) : Prop :=
  (∀ r ∈ s.mp.waiting, r.WithinBurst) ∧ ∀ f, some f ∈ s.mp.slots.toList → f.request.WithinBurst

/-! ### What the statements speak of -/

/-- A READ of len bytes for a purpose is on the bus in a slot and not withdrawn, and no owner is taking an outcome, as is so
between any two commands. -/
structure Reading (p : Purpose) (i : Fin 8) (len : Nat) (s : State) : Prop where
  slot    : s.mp.slotOf p = some i
  read    : ∀ f, s.mp.slots[i] = some f → f.request.data = none ∧ f.request.len = len
  between : s.mp.completing = false

/-- A WRITE for a purpose is on the bus in a slot and not withdrawn, and no owner is taking an outcome. -/
structure Writing (p : Purpose) (i : Fin 8) (s : State) : Prop where
  slot    : s.mp.slotOf p = some i
  write   : ∀ f, s.mp.slots[i] = some f → f.request.data.isSome = true
  between : s.mp.completing = false

/-- A request for a purpose waits in the list or is on the bus, not withdrawn. -/
def Requested (p : Purpose) (data : Option (List Byte)) (addr : Addr) (len : Nat) (s : State) : Prop :=
  ∃ r : Request, r.purpose = p ∧ r.data = data ∧ r.addr = addr ∧ r.len = len ∧
    (r ∈ s.mp.waiting ∨ ∃ f, some f ∈ s.mp.slots.toList ∧ f.request = r ∧ f.withdrawn = false)

/-- The commands at which the Frame Timer takes a frame start (R10 to R12), with the time of the start. -/
inductive TakesStart (s : State) : Instr → Nat → Prop where
  | internal (h : s.ft.timingIn .internal = true) : TakesStart s .internalPeriodExpiry (s.ft.base + ms 48)
  | firstEdge (t : Nat) (h : s.ft.timingIn .locked = true) (hf : s.ft.lastStart = none) :
      TakesStart s (.frameInEdge t) (s.ft.base + t)
  | edge (t : Nat) (h : s.ft.timingIn .locked = true ∨ s.ft.timingIn .holdover = true) (ht : ms 44 ≤ t) :
      TakesStart s (.frameInEdge t) (s.ft.base + t)
  | deadline (h : s.ft.timingIn .locked = true) : TakesStart s .lockedDeadline (s.ft.base + ms 52)
  | expiry (h : s.ft.timingIn .holdover = true) : TakesStart s .holdoverPeriodExpiry (s.ft.base + ms s.ft.period)

/-- The state after n samples counted as samples in HUNT (R152 to R154): with the marker armed the idle count goes up by them, and at
320 the IDLE marker completes: stored, or lost when the FIFO is full. -/
def samplesCounted (n : Nat) (s : State) : State :=
  if s.alr.armed = false then s
  else if s.alr.idleCount + n < 320 then { s with alr := { s.alr with idleCount := s.alr.idleCount + n } }
  else if s.alr.fifo.length < 32 then
    { s with alr := { s.alr with
        idleCount := 320, armed := false, overrun := false
        fifo := s.alr.fifo ++ [{ value := none, noise := false, parity := false, framing := false, isBreak := false
                                 overrunBefore := s.alr.overrun }] } }
  else
    { s with
      alr := { s.alr with idleCount := 320, armed := false, overrun := true, lost := min 4294967295 (s.alr.lost + 1) }
      sw := { s.sw with cause := s.sw.cause ||| Cause.link.word } }

/-- The rank of a class, the highest first (R184). -/
def Class.rank : Class → Nat
  | .urgent => 0
  | .timed => 1
  | .control => 2
  | .bulk => 3

/-- The blocks that a plan load's end leaves alone. -/
def KeptByPlans (s t : State) : Prop :=
  t.modes = s.modes ∧ t.regs = s.regs ∧ t.ft = s.ft ∧ t.cp = s.cp ∧ t.services = s.services ∧ t.tp = s.tp ∧ t.ac = s.ac ∧
    t.ss = s.ss ∧ t.alr = s.alr ∧ t.tgp = s.tgp

/-- The blocks that a standby load's end leaves alone. -/
def KeptByStandby (s t : State) : Prop :=
  t.modes = s.modes ∧ t.regs = s.regs ∧ t.ft = s.ft ∧ t.cp = s.cp ∧ t.services = s.services ∧ t.tp = s.tp ∧ t.ac = s.ac ∧
    t.pm = s.pm ∧ t.alr = s.alr ∧ t.tgp = s.tgp

/-- A count by which a condition goes up. -/
def countIf (p : Bool) : Nat := if p then 1 else 0

/-- A frame start at a time, in STARTING before the sequence has succeeded, under the source in force: the clock and the last
start are set, and FRAME_MARK is pulsed when enabled (R14, R16, R19). -/
def startedBefore (at_ : Nat) (s : State) : State :=
  { s with
    now := max s.now at_
    ft := { s.ft with lastStart := some at_, frameMarks := s.ft.frameMarks + countIf s.regs.markEnable } }

/-- The period HOLDOVER's expiry opens, in milliseconds, by the edge phase recorded in microseconds (R12). -/
def holdoverPeriod : Option Nat → Nat
  | none => 48
  | some t => if 24000 ≤ t ∧ t < 44000 then 47 else if t < 24000 then 49 else 48

/-- The remainder register of the CRC after one bit, most significant bit first: the bit shifted out, against the bit shifted in,
decides whether the generator x^16 + x^12 + x^5 + 1 is taken off (R2). -/
def crcBit (r : U16) (bit : Bool) : U16 := if r.msb != bit then (r <<< 1) ^^^ 0x1021#16 else r <<< 1

/-- Whether a cause bit is set. -/
def State.caused (s : State) (c : Cause) : Bool := s.sw.cause.getLsbD c.bit

/-- The Frame Timer after a start that begins a frame and the next assembly period (R14 to R16, R19). -/
def FrameTimer.begun (at_ : Nat) (marked : Bool) (f : FrameTimer) : FrameTimer :=
  { f with
    lastStart := some at_, nextSerial := f.nextSerial + 1, pollsMade := 0, cutOffMade := false
    frameMarks := f.frameMarks + countIf marked }

/-! ### Write-backs (R35, R36) -/

/-- The write-back of a snapshot was requested of a Status Writer w, whose requests waited in a list, and t is the state after
it (R35). With address 0 none is made. From IDLE it becomes the write-back and the leading copy of the next sequence is
requested; a WAITING one is replaced where its request stands, and counted; behind a WRITING one it is held, and a held one that
it replaces is counted. A write-back granted at once is WRITING, with its sequence counted (R36). -/
def WritebackRequested (snap : Snapshot) (w : StatusWriter) (waiting : List Request) (t : State) : Prop :=
  (snap.addr = 0 → t.sw.current = w.current ∧ t.sw.held = w.held ∧ t.sw.coalesced = w.coalesced) ∧
  (snap.addr ≠ 0 → w.state ≠ .writing → t.sw.current = some snap ∧ t.sw.held = w.held ∧
    (t.sw.state = .waiting ∧ t.sw.sequence = w.sequence ∨ t.sw.state = .writing ∧ t.sw.sequence = w.sequence + 1)) ∧
  (snap.addr ≠ 0 → w.state = .idle → t.sw.coalesced = w.coalesced ∧
    Requested .status (some (be32 (w.sequence + 1))) snap.addr 4 t) ∧
  (snap.addr ≠ 0 → w.state = .waiting → t.sw.coalesced = w.coalesced + 1 ∧
    ∀ r ∈ waiting, r.purpose = .status → Requested .status r.data snap.addr r.len t) ∧
  (snap.addr ≠ 0 → w.state = .writing → t.sw.state = .writing ∧ t.sw.sequence = w.sequence ∧ t.sw.current = w.current ∧
    t.sw.held = some snap ∧ t.sw.coalesced = w.coalesced + BitVec.ofNat 32 (countIf w.held.isSome))

/-- The body of a closing snapshot (R36, R198) over the state t that the teardown left, with the coalesced-write-back count as it
then stood: the serial of the last frame begun, the mode fixed for it, and no services. -/
def closingBody (mode : Byte) (coalesced : U32) (t : State) : List Byte :=
  statusBody t.tp.lastSerial mode (List.replicate 768 0) { t with sw := { t.sw with coalesced := coalesced } }

/-- The closing write-back was requested (R36), s being the state before and w its Status Writer as the teardown left it. The
mode fixed for the last frame begun is a free value when no frame was begun: log entry 10. -/
def ClosingRequested (addr : Addr) (w : StatusWriter) (waiting : List Request) (s t : State) : Prop :=
  ∃ mode : Byte, (∀ m, s.tp.lastMode = some m → mode = BitVec.ofNat 8 m.code) ∧
    WritebackRequested { addr := addr, body := closingBody mode s.sw.coalesced t } w waiting t

/-- The Status Writer that the teardown of a STOP leaves: IDLE, with no snapshot (R27, R36). -/
def StatusWriter.cleared (w : StatusWriter) : StatusWriter := { w with state := .idle, current := none, held := none }

/-! ### A STOP (R27, R178) -/

/-- What the Standby Store keeps on entering STOPPED (R27, R178): its regions and revisions, but for a region that was LOADING, which
becomes INVALID with revision 0; no load and no request stays, and no result is recorded for either. -/
structure StandbyKept (s t : StandbyStore) : Prop where
  regions : ∀ i, (s.region i).state ≠ .loading → t.region i = s.region i
  loading : ∀ i, (s.region i).state = .loading → (t.region i).state = .invalid ∧ (t.region i).revision = 0
  dropped : t.load = none ∧ t.pending = none
  values  : t.lastResult = s.lastResult ∧ t.frameCount = s.frameCount ∧ t.loopIndex = s.loopIndex
  count   : t.supersedes = s.supersedes

/-- What a STOP carried out keeps (R27): the registers, the results of the last start and of the last plan, the Standby Store, the
last TEST and the device-wide counters, but for the two that a frame start may advance. -/
structure KeptByStop (s t : State) : Prop where
  registers : t.regs = s.regs ∧ t.sw.mask = s.sw.mask
  results   : t.modes.startResult = s.modes.startResult ∧ t.modes.resume = s.modes.resume ∧ t.pm.lastResult = s.pm.lastResult
  standby   : StandbyKept s.ss t.ss
  line      : t.alr.rate = s.alr.rate ∧ t.alr.lost = s.alr.lost
  parser    : t.tgp.rejects = s.tgp.rejects ∧ t.tgp.lastTest = s.tgp.lastTest ∧ t.tgp.testCount = s.tgp.testCount
  counters  : t.ft.spurious = s.ft.spurious ∧ t.cp.ignores = s.cp.ignores ∧ t.mp.faults = s.mp.faults ∧
    t.mp.timeouts = s.mp.timeouts ∧ t.ac.drops = s.ac.drops ∧ t.pm.supersedes = s.pm.supersedes

/-! ### The beginning of an assembly period (R60, R61, R76, R120) -/

/-- A service is a target in the frame whose assembly period t is in (R176). -/
def Targeted (t : State) (sid : U16) : Prop := t.ac.phase = .active ∧ sid ∈ t.ac.targets

/-- PE begins a selection for a service at the start of an assembly period (R120). -/
def Selects (t : State) (e : PlanEntry) (p : PictureState) : Prop :=
  e.pictureAddr ≠ 0 ∧ ¬ Targeted t e.sid ∧ p.carousel = .idle ∧ p.selection = .idle

/-- PE begins a refill for a service at the start of an assembly period (R120). -/
def Refills (t : State) (e : PlanEntry) (p : PictureState) : Prop :=
  e.pictureAddr ≠ 0 ∧ ¬ Targeted t e.sid ∧ p.carousel = .sending ∧ p.suspended = false ∧ p.refill = .idle ∧
    p.staging.length < 240 ∧ p.pass.offset + p.staging.length < p.object.len

/-- A slot-read record that has been polled at the start of its assembly period: fresh, with its header read requested (R60, R61). -/
def slotPolled : SlotRead := { phase := .header, outcome := .none, held := none, buffer := [] }

/-- The purposes for which requests are made at a frame start that begins an assembly period, t being the state after it: SW's and
CP's in every mode, and in a frame fixed RUNNING those of CR and PE (R16, R61, R76, R120). -/
inductive AskedAtStart (s t : State) : Purpose → Prop where
  | root : AskedAtStart s t .rootPoll
  | status : AskedAtStart s t .status
  | slot (running : t.modes.mode = .running) (v : Service) (hv : v ∈ s.services) : AskedAtStart s t (.slotHeader (.service v.sid))
  | alert (running : t.modes.mode = .running) (kept : t.alertSlot ≠ none) : AskedAtStart s t (.slotHeader .alert)
  | selection (running : t.modes.mode = .running) (v : Service) (hv : v ∈ s.services) (e : PlanEntry)
      (he : s.entryOf v.sid = some e) (selects : Selects t e v.picture) : AskedAtStart s t (.listHeader v.sid)
  | refill (running : t.modes.mode = .running) (v : Service) (hv : v ∈ s.services) (e : PlanEntry)
      (he : s.entryOf v.sid = some e) (refills : Refills t e v.picture) : AskedAtStart s t (.refillRecord v.sid)

/-- A frame start began an assembly period, t being the state after it: for a frame fixed RUNNING every service, a DORMANT one too, has
a fresh slot-read record and its slot's header is requested (R60, R61); the alert slot has one in a frame fixed ACTIVE with
RING_THEN_LOOP accepted (R76); PE's selections and refills begin (R120). For a frame fixed HOLDING there is none of these. No other
request is made, and nothing else of a service changes. -/
structure AssemblyBegun (s t : State) : Prop where
  services : t.services.map (·.sid) = s.services.map (·.sid)
  polls    : t.modes.mode = .running → ∀ v ∈ s.services, ∀ e, s.entryOf v.sid = some e →
    ∃ w ∈ t.services, w = { v with slot := some slotPolled, picture := w.picture } ∧
      Requested (.slotHeader (.service v.sid)) none
        (e.ringBase + BitVec.ofNat 40 (t.ft.nextSerial.toNat % e.ringDepth * (32 + 32 * e.cells))) 5 t ∧
      (Selects t e v.picture → w.picture = { v.picture with selection := .header } ∧
        Requested (.listHeader v.sid) none e.pictureAddr 16 t) ∧
      (Refills t e v.picture → w.picture = { v.picture with refill := .record } ∧
        Requested (.refillRecord v.sid) none (e.pictureAddr + BitVec.ofNat 40 (16 + 32 * v.picture.entry)) 32 t) ∧
      (¬ Selects t e v.picture → ¬ Refills t e v.picture → w.picture = v.picture)
  ring     : t.modes.mode = .running → t.ac.phase = .active → ∀ a, t.cp.accepted = some a → a.loopOnly = false →
    t.alertSlot = some { slot := slotPolled, base := a.ringBase, depth := a.ringDepth, size := a.slotSize } ∧
      Requested (.slotHeader .alert) none
        (a.ringBase + BitVec.ofNat 40 (t.ft.nextSerial.toNat % a.ringDepth * (32 + a.slotSize))) 5 t
  noRing   : t.modes.mode = .holding ∨ t.ac.phase ≠ .active ∨ (∀ a, t.cp.accepted = some a → a.loopOnly = true) →
    t.alertSlot = none
  holding  : t.modes.mode = .holding → t.services = s.services.map (fun v => { v with slot := none })
  noOther  : (∀ r ∈ t.mp.waiting, r ∈ s.mp.waiting ∨ AskedAtStart s t r.purpose) ∧
    ∀ f, some f ∈ t.mp.slots.toList →
      some f ∈ s.mp.slots.toList ∨ f.request ∈ s.mp.waiting ∨ AskedAtStart s t f.request.purpose

/-! ### The work of a cut-off, and the carry-over at a switch (R7, R15, R54 to R57) -/

/-- The state in which a cut-off begins its work: 40 ms after the frame start (R15). That the model's clock moves there is log entry
2. -/
def atCutOff (s : State) : State :=
  { s with now := max s.now (s.ft.base + 40000), ft := { s.ft with cutOffMade := true } }

/-- The state that the work of a cut-off for the frame being assembled leaves, before the next frame is fixed (R15). -/
def worked (s : State) : State := (workFrame (atCutOff s)).state

/-- The 32 × C bytes of a payload that an entry's cells hold (R7). -/
def fieldOf (payload : List Byte) (e : PlanEntry) : List Byte := (payload.drop (32 * e.start)).take (32 * e.cells)

/-- What CR hands AS for a service v of an entry at a cut-off (R68): the audio and whether annex packets are permitted, by the
service's own decision, or for a target of an ACTIVE frame by the takeover's (R75, R77). -/
def handedOver (s : State) (e : PlanEntry) (v : Service) : List Byte × Bool :=
  let silence := if s.ss.silence.state = .valid then some s.ss.silence.bytes else none
  let own := decideAudio v.contribution ((v.slot.getD .fresh).result) silence (32 * e.cells - 2) s.ft.nextSerial
  if s.ac.phase = .active ∧ e.sid ∈ s.ac.targets then
    (takeoverAudio (selectAlertAudio s).alertAudio (32 * e.cells - 2) own.audio, true)
  else (own.audio, own.permitted)

/-- The reset state of a label (R100). -/
def labelAtReset : LabelState :=
  { buffer := none, revision := 0, received := none, read := .idle, slips := 0, alert := none
    run := { position := 0, chars := none, serial := 0, toggle := false, segment := 0, passCount := 0, timer := 0
             stepPending := false } }

/-- The reset state of a picture (R119). -/
def pictureAtReset : PictureState :=
  { carousel := .idle, selection := .idle, listSeen := none, count := 0, nextIndex := 0, skips := 0, entry := 0
    object := { addr := 0, len := 0, passes := 0, dwell := 0 }, passRevision := 0, passCount := 0
    pass := { toggle := false, offset := 0, segment := 0, crc := 0xFFFF#16 }, staging := [], refill := .idle
    suspended := false, dwellTimer := 0, abort := none, alert := none }

/-- The state with which a service of an entry begins, its first frame being the one after the frame of a serial (R58, R79, R100,
R119). -/
def serviceAtReset (e : PlanEntry) (before : U32) : Service :=
  { sid := e.sid, slot := none, label := labelAtReset, picture := pictureAtReset
    contribution := { substitution := .normal, lateRun := 0, lastLate := .none, lateTotal := 0, taken := before.setWidth 16
                      repeatBuffer := none }
    annex := { labelCredit := 0, labelQuantum := e.labelQuantum, pictureCredit := 0, pictureQuantum := e.pictureQuantum
               mode := .own, sequence := 0 } }

/-- A service v of an old entry was carried over as w to the matched new entry (R55, R56, R96). Its slot-read record has ended
(R60). -/
structure CarriedOver (old new : PlanEntry) (v w : Service) : Prop where
  sameRing : old.ringBase = new.ringBase →
    w.contribution = { v.contribution with repeatBuffer := w.contribution.repeatBuffer } ∧
      (v.contribution.repeatBuffer = none → w.contribution.repeatBuffer = none) ∧
      ∀ b, v.contribution.repeatBuffer = some b →
        w.contribution.repeatBuffer = if 32 * new.cells - 2 < b.length then none else some b
  newRing  : old.ringBase ≠ new.ringBase →
    w.contribution = { v.contribution with substitution := .normal, lateRun := 0, repeatBuffer := none }
  slot     : w.slot = none
  picture  : w.picture = if old.pictureAddr = new.pictureAddr then v.picture else pictureAtReset
  label    : w.label = if old.labelAddr = new.labelAddr then v.label else labelAtReset
  ownMode  : v.annex.mode = .own → w.annex = { v.annex with
    labelCredit := min v.annex.labelCredit (8 * new.labelQuantum), labelQuantum := new.labelQuantum
    pictureCredit := min v.annex.pictureCredit (8 * new.pictureQuantum), pictureQuantum := new.pictureQuantum }
  alertMode : v.annex.mode = .alert → w.annex = { v.annex with
    pictureCredit := min v.annex.pictureCredit (8 * new.pictureQuantum), pictureQuantum := new.pictureQuantum }

/-- A transfer is withdrawn at a switch (R57): its service is dropped or restarted, or it is of a part of a matched service that is
reset. -/
def WithdrawnAtSwitch (old new : List PlanEntry) (p : Purpose) : Prop :=
  ∃ sid, p.service? = some sid ∧ ∀ o ∈ old, ∀ n ∈ new, o.sid = sid → n.sid = sid →
    n.restart = true ∨ (p = .labelPoll sid ∨ p = .labelFetch sid) ∧ o.labelAddr ≠ n.labelAddr ∨
      (p = .listHeader sid ∨ p = .listEntry sid ∨ p = .refillRecord sid ∨ p = .refillData sid) ∧ o.pictureAddr ≠ n.pictureAddr

/-- The carry-over of a switch from one plan's entries to another's, from the state a before it to the state t, the switch frame
being the one after the frame of a serial (R54 to R57). -/
structure SwitchCarried (old new : List PlanEntry) (before : U32) (a t : State) : Prop where
  services  : t.services.map (·.sid) = new.map (·.sid)
  matched   : ∀ n ∈ new, ∀ o ∈ old, ∀ v ∈ a.services, o.sid = n.sid → v.sid = n.sid → n.restart = false →
    ∃ w ∈ t.services, w.sid = n.sid ∧ CarriedOver o n v w
  begun     : ∀ n ∈ new, n.restart = true ∨ (∀ o ∈ old, o.sid ≠ n.sid) → serviceAtReset n before ∈ t.services
  withdrawn : (∀ r ∈ t.mp.waiting, ¬ WithdrawnAtSwitch old new r.purpose) ∧
    ∀ f, some f ∈ t.mp.slots.toList → WithdrawnAtSwitch old new f.request.purpose → f.withdrawn = true
  waiting   : ∀ r ∈ a.mp.waiting, ¬ WithdrawnAtSwitch old new r.purpose →
    r ∈ t.mp.waiting ∨ ∃ f, some f ∈ t.mp.slots.toList ∧ f.request = r ∧ f.withdrawn = false
  onTheBus  : ∀ f, some f ∈ a.mp.slots.toList → ¬ WithdrawnAtSwitch old new f.request.purpose → some f ∈ t.mp.slots.toList

/-! ### Requests and phases at a cut-off (R165, R167, R171 to R174) -/

/-- No request waits for the Alert Controller: no telegram is held and no cell request is COMPLETE (R165). -/
def NoRequest (s : State) : Prop := s.tgp.hold = none ∧ ∀ c, s.ac.cell = some c → c.complete = false

/-- One request waits for the Alert Controller (R165). -/
def OneRequest (s : State) (r : AlertRequest) : Prop :=
  (∃ m, s.tgp.hold = some m ∧ (∀ c, s.ac.cell = some c → c.complete = false) ∧ r = m.request) ∨
    (s.tgp.hold = none ∧ ∃ c, s.ac.cell = some c ∧ c.complete = true ∧ r = c.request)

/-- The Alert Controller when it has applied the requests waiting for it at a cut-off: the telegram held, and then the cell request
when it is COMPLETE, which it gives up (R165). No level-3 insertion counts but theirs. -/
def requestsApplied (s : State) : AlertController :=
  let a : AlertController := { s.ac with level3Inserted := false }
  let b := match s.tgp.hold with
    | some m => (applyRequest m.request a).ac
    | none => a
  match s.ac.cell with
  | some c => if c.complete then (applyRequest c.request { b with cell := none }).ac else b
  | none => b

/-- The first WAITING entry of a queue: the one nearest the front (R167). -/
def FirstWaiting (q : List AlertEntry) (w : AlertEntry) : Prop :=
  ∃ before after, q = before ++ w :: after ∧ w.state = .waiting ∧ ∀ e ∈ before, e.state ≠ .waiting

/-- A queue with no WAITING entry. -/
def NoneWaiting (q : List AlertEntry) : Prop := ∀ e ∈ q, e.state ≠ .waiting

/-- A queue with an entry in the place of the one of its key. -/
def withEntry (e : AlertEntry) (q : List AlertEntry) : List AlertEntry := q.map (fun x => if x.key = e.key then e else x)

/-- A queue without an entry. -/
def withoutEntry (e : AlertEntry) (q : List AlertEntry) : List AlertEntry := q.filter (fun x => decide (x.key ≠ e.key))

/-- An entry fixed ACTIVE, its remaining frames counting that frame (R172). -/
def AlertEntry.ran (e : AlertEntry) : AlertEntry := { e with state := .active, announce := 0, remaining := e.remaining - 1 }

/-- An entry returned to WAITING, its remaining frames kept (R171 to R173). -/
def AlertEntry.rested (e : AlertEntry) : AlertEntry := { e with state := .waiting, announce := 0 }

/-- An entry fixed RELEASING (R172, R173). -/
def AlertEntry.released (e : AlertEntry) : AlertEntry := { e with state := .releasing }

/-- An entry that goes on where an announcement of count a stood (R173). -/
def AlertEntry.wentOn (a : Nat) (e : AlertEntry) : AlertEntry :=
  if a = 1 then { e with state := .announcing, announce := 2 } else e.ran

/-- An entry that begins to announce (R174). -/
def AlertEntry.began (e : AlertEntry) : AlertEntry := { e with state := .announcing, announce := 1 }

/-- An ACTIVE entry ends when its end mark is set or its remaining frames are 0 (R172). -/
def AlertEntry.Ends (e : AlertEntry) : Prop := e.endMark = true ∨ e.remaining = 0

/-- What the fixing of a frame fixed RUNNING makes of a queue q: the queue after it and its current entry, row by row of the tables
of R172 and R173, and by R174. -/
inductive PhaseFixed (q : List AlertEntry) : List AlertEntry → Option AlertEntry → Prop where
  | handover (c w : AlertEntry) (hc : c ∈ q) (active : c.state = .active) (ends : c.Ends) (first : FirstWaiting q w) :
      PhaseFixed q (withEntry w.ran (withoutEntry c q)) (some w.ran)
  | activeEnds (c : AlertEntry) (hc : c ∈ q) (active : c.state = .active) (ends : c.Ends) (alone : NoneWaiting q) :
      PhaseFixed q (withEntry c.released q) (some c.released)
  | preemption (c w : AlertEntry) (hc : c ∈ q) (active : c.state = .active) (goes : ¬ c.Ends) (first : FirstWaiting q w)
      (higher : c.level < w.level) : PhaseFixed q (withEntry w.ran (withEntry c.rested q)) (some w.ran)
  | activeGoesOn (c : AlertEntry) (hc : c ∈ q) (active : c.state = .active) (goes : ¬ c.Ends)
      (noHigher : ∀ w, FirstWaiting q w → w.level ≤ c.level) : PhaseFixed q (withEntry c.ran q) (some c.ran)
  | placeTaken (c w : AlertEntry) (hc : c ∈ q) (announcing : c.state = .announcing) (ends : c.endMark = true)
      (first : FirstWaiting q w) :
      PhaseFixed q (withEntry (w.wentOn c.announce) (withoutEntry c q)) (some (w.wentOn c.announce))
  | announcingEnds (c : AlertEntry) (hc : c ∈ q) (announcing : c.state = .announcing) (ends : c.endMark = true)
      (alone : NoneWaiting q) : PhaseFixed q (withEntry c.released q) (some c.released)
  | placeTakenByHigher (c w : AlertEntry) (hc : c ∈ q) (announcing : c.state = .announcing) (goes : c.endMark = false)
      (first : FirstWaiting q w) (higher : c.level < w.level) :
      PhaseFixed q (withEntry (w.wentOn c.announce) (withEntry c.rested q)) (some (w.wentOn c.announce))
  | announcingGoesOn (c : AlertEntry) (hc : c ∈ q) (announcing : c.state = .announcing) (goes : c.endMark = false)
      (noHigher : ∀ w, FirstWaiting q w → w.level ≤ c.level) :
      PhaseFixed q (withEntry (c.wentOn c.announce) q) (some (c.wentOn c.announce))
  | releasedThenBegins (c w : AlertEntry) (hc : c ∈ q) (releasing : c.state = .releasing) (first : FirstWaiting q w) :
      PhaseFixed q (withEntry w.began (withoutEntry c q)) (some w.began)
  | releasedThenNone (c : AlertEntry) (hc : c ∈ q) (releasing : c.state = .releasing) (alone : NoneWaiting q) :
      PhaseFixed q (withoutEntry c q) none
  | begins (w : AlertEntry) (noCurrent : ∀ e ∈ q, e.state = .waiting) (first : FirstWaiting q w) :
      PhaseFixed q (withEntry w.began q) (some w.began)
  | nothing (empty : q = []) : PhaseFixed q [] none

/-- What the fixing of a frame fixed HOLDING makes of a queue (R171). -/
inductive PhaseHeld (q : List AlertEntry) : List AlertEntry → Prop where
  | removed (c : AlertEntry) (hc : c ∈ q)
      (leaves : c.state = .releasing ∨ c.state = .announcing ∧ c.endMark = true ∨ c.state = .active ∧ c.Ends) :
      PhaseHeld q (withoutEntry c q)
  | returned (c : AlertEntry) (hc : c ∈ q)
      (stays : c.state = .announcing ∧ c.endMark = false ∨ c.state = .active ∧ ¬ c.Ends) :
      PhaseHeld q (withEntry c.rested q)
  | unchanged (noCurrent : ∀ e ∈ q, e.state = .waiting) : PhaseHeld q q

/-- The phase that a current entry gives its frame (R175). -/
def phaseOf : Option AlertEntry → AlertPhase
  | none => .none
  | some e => e.state.phase

/-! ### Directory records (R135 to R140) -/

/-- A directory record: its kind, its size with the record header, and its content (R135). -/
def dirRecord (kind : Nat) (content : List Byte) : List Byte :=
  [BitVec.ofNat 8 kind, BitVec.ofNat 8 (2 + content.length)] ++ content

/-- Part k of a plan, in eights of its entries (R136). -/
def dirPart (kind : Nat) (number : Byte) (k : Nat) (entries : List PlanEntry) : List Byte :=
  dirRecord kind ([number, BitVec.ofNat 8 k, BitVec.ofNat 8 ((entries.length + 7) / 8)] ++
    ((entries.drop (8 * k)).take 8).flatMap (fun e =>
      [e.subId, BitVec.ofNat 8 (e.start / 256), BitVec.ofNat 8 e.start, BitVec.ofNat 8 e.cells, e.mask]))

/-- The record at a position of a plan's carousel in a frame whose time of day is given: the parts, the services, the time
(R137, R138, R143). -/
def dirCarousel (p : Plan) (frame : U32) (time : Nat) (position : Nat) : List Byte :=
  let parts := (p.entries.length + 7) / 8
  if position < parts then dirPart 1 p.number position p.entries
  else match p.entries[position - parts]? with
    | some e => dirRecord 3 ([e.sid.extractLsb' 8 8, e.sid.extractLsb' 0 8, e.subId,
        BitVec.ofNat 8 (countIf (e.labelAddr != 0) + 2 * countIf (e.pictureAddr != 0))] ++ e.name)
    | none => dirRecord 4 (be32 frame ++ be 4 time)

/-- The time of day of a frame by the anchor last accepted, or 4,294,967,295 (R138, R139). -/
def dirTime (anchor : Option RootValues) (frame : U32) : Nat :=
  match anchor with
  | some v => if v.anchorMs < 86400000 then (v.anchorMs + (frame - v.anchorSerial).toNat * 48) % 86400000 else 4294967295
  | none => 4294967295

/-- The loaded bytes of a LOOP region as a run of frames, each after its 2-byte length (R179, R181). -/
def loopBytes (frames : List (List Byte)) : List Byte := frames.flatMap (fun f => be 2 f.length ++ f)

end Sys2Proof.Machine
end

