-- ==== Sys2Proof/Certificates/Slice0/Obligations.lean ====
section
/-! DEFINITION. The statements for the provers. Log entries are the rows of notes/assumptions. -/

open Sys2Proof Sys2Proof.Machine

/-! ### The queue of commands -/

/-- A step takes the command at the front of the queue and answers what it does to the state with the queue's rest; on an empty
queue the part idles. Both are the model's choice (log entry 1): the part has no queue, and its timers are commands. -/
def Obligations.StepRunsFrontCommand : Prop :=
  (∀ (c : Instr) (rest : List Instr) (s : State), s.pending = c :: rest → step s = exec c { s with pending := rest }) ∧
  (∀ s : State, s.pending = [] → step s = .next s)

/-- Every command is answered with a next state, and none puts a command in the queue or takes one out. That no command stops the
part is log entry 21, for a failed transfer is counted and the part goes on (R191); a command whose event cannot occur in the
state answers too, with no effect (log entry 4). The queue is the model's own (log entry 1). -/
def Obligations.CommandsAnswerAndLeaveTheQueue : Prop :=
  ∀ (c : Instr) (s : State), ∃ t, exec c s = .next t ∧ t.pending = s.pending

/-! ### Resets (R28, R29) -/

/-- Power-on reset returns the blocks to their reset state (R28): STOPPED, no request and no transfer with the quiet time begun,
every region INVALID with revision 0, the registers, CAUSE, the status sequence and every counter 0, IRQ deasserted. The queue
of commands and the level of TX_READY, which comes from outside, stay (log entry 24). -/
def Obligations.PowerOnReset : Prop :=
  ∀ s : State, ∃ t, exec .powerOnReset s = .next t ∧
    t.modes = { mode := .stopped, pending := .none, startResult := .none, resume := .none, stage := .idle } ∧
    t.regs.source = .internal ∧ t.regs.markEnable = false ∧ t.regs.rootLo = 0 ∧ t.regs.rootHi = 0 ∧
    t.sw.cause = 0 ∧ t.sw.mask = 0 ∧ t.irq = false ∧ t.sw.sequence = 0 ∧ t.sw.state = .idle ∧ t.sw.held = none ∧
    t.sw.coalesced = 0 ∧
    t.mp.waiting = [] ∧ t.mp.slots = Vector.replicate 8 none ∧ t.mp.grantCounter = 0 ∧ t.mp.faults = 0 ∧
    t.mp.timeouts = 0 ∧ t.mp.quietEnd = some (s.now + 4000) ∧
    (∀ i, (t.ss.region i).state = .invalid ∧ (t.ss.region i).revision = 0) ∧ t.ss.load = none ∧ t.ss.pending = none ∧
    t.ss.supersedes = 0 ∧
    t.ft.timingFrom = none ∧ t.ft.lastStart = none ∧ t.ft.nextSerial = 0 ∧ t.ft.spurious = 0 ∧ t.ft.holdovers = 0 ∧
    t.ft.state = .internal ∧ t.tp.state = .idle ∧ t.tp.truncated = 0 ∧
    t.cp.accepted = none ∧ t.cp.seen = none ∧ t.cp.ignores = 0 ∧
    t.pm.active = .empty ∧ t.pm.staged = .empty ∧ t.pm.state = .idle ∧ t.pm.countdown = 0 ∧ t.pm.lastResult = .none ∧
    t.pm.supersedes = 0 ∧
    t.services = [] ∧ t.alr.state = .disabled ∧ t.alr.rate = .baud9600 ∧ t.alr.fifo = [] ∧ t.alr.lost = 0 ∧
    t.tgp.state = .hunt ∧ t.tgp.hold = none ∧ t.tgp.rejects = Vector.replicate 10 0 ∧ t.tgp.testCount = 0 ∧
    t.ac.queue = [] ∧ t.ac.phase = .none ∧ t.ac.cell = none ∧ t.ac.drops = 0 ∧
    t.pending = s.pending ∧ t.tp.ready = s.tp.ready

/-- Soft reset acts as power-on reset, but ROOT_LO, ROOT_HI and CAUSE_MASK keep their values and each region of the Standby
Store keeps its state, contents and revision, except that one that was LOADING becomes INVALID (R29, R178). The LOOP frame
count is kept with its region. The other fields of the word written are ignored (R20). -/
def Obligations.SoftReset : Prop :=
  ∀ (word : BitVec 32) (s p : State), exec .powerOnReset s = .next p →
    ∃ t, exec (.softReset word) s = .next t ∧
      t = { p with
        regs := { p.regs with rootLo := s.regs.rootLo, rootHi := s.regs.rootHi }
        sw := { p.sw with mask := s.sw.mask }
        ss := t.ss } ∧
      (∀ i, (s.ss.region i).state ≠ .loading → t.ss.region i = s.ss.region i) ∧
      (∀ i, (s.ss.region i).state = .loading → (t.ss.region i).state = .invalid ∧ (t.ss.region i).revision = 0) ∧
      t.ss.frameCount = s.ss.frameCount ∧ t.ss.load = none ∧ t.ss.pending = none ∧ t.ss.lastResult = .none ∧
      t.ss.loopIndex = 0 ∧ t.ss.supersedes = 0

/-! ### Mode requests (R21 to R23, R27) -/

/-- The RUN and HOLD columns of the table of R21, outside the start check of R22: what changes is the pending request alone. -/
def Obligations.RunAndHoldRequests : Prop :=
  ∀ s : State,
    let pend (r : ModeRequest) : State := { s with modes := { s.modes with pending := r } }
    (s.modes.mode = .stopped → exec .modeRequestHold s = .next s) ∧
    (s.modes.mode = .starting → exec .modeRequestRun s = .next s ∧ exec .modeRequestHold s = .next (pend .hold)) ∧
    (s.modes.mode = .running → s.modes.pending = .none →
      exec .modeRequestRun s = .next s ∧ exec .modeRequestHold s = .next (pend .hold)) ∧
    (s.modes.mode = .running → s.modes.pending = .hold →
      exec .modeRequestRun s = .next (pend .none) ∧ exec .modeRequestHold s = .next s) ∧
    (s.modes.mode = .holding → s.modes.pending = .none →
      exec .modeRequestRun s = .next (pend .run) ∧ exec .modeRequestHold s = .next s) ∧
    (s.modes.mode = .holding → s.modes.pending = .run →
      exec .modeRequestRun s = .next s ∧ exec .modeRequestHold s = .next (pend .none)) ∧
    (s.modes.mode = .running ∨ s.modes.mode = .holding → s.modes.pending = .stop →
      exec .modeRequestRun s = .next s ∧ exec .modeRequestHold s = .next s)

/-- A RUN taken in STOPPED (R22): a root address of 0, or one that is no multiple of 64, is refused with ROOT_ADDRESS; with
any other the device enters STARTING, the start result PENDING, the resume reason and the pending request NONE, MODE raised,
the Frame Timer timing, and the root read requested. FRAME_NOW's frame number reads 0 from then (R31). -/
def Obligations.RunFromStopped : Prop :=
  ∀ s : State, s.modes.mode = .stopped →
    (s.rootAddress = 0 ∨ s.rootAddress.toNat % 64 ≠ 0 →
      exec .modeRequestRun s = .next { s with
        modes := { s.modes with startResult := .rootAddress }
        sw := { s.sw with cause := s.sw.cause ||| Cause.mode.word } }) ∧
    (s.rootAddress ≠ 0 → s.rootAddress.toNat % 64 = 0 →
      exec .modeRequestRun s = .next (enterRead .rootRead s.rootAddress 128 { s with
        modes :=
          { mode := .starting, pending := .none, startResult := .pending, resume := .none, stage := .rootRead }
        ft := { s.ft with timingFrom := some s.now, lastStart := none, nextSerial := 0, edgePhase := none }
        tp := { s.tp with lastSerial := 0, lastMode := none }
        sw := { s.sw with cause := s.sw.cause ||| Cause.mode.word } }))

/-- The STOP column of the table of R21. In STARTING the start is abandoned with ABORTED and no closing write-back (R23);
that entering STOPPED raises MODE and no CLOCK is log entry 11. In RUNNING and HOLDING a STOP waits while a frame is in emission;
otherwise it is carried out at once (R18, R27; with the port SENT, log entry 11), with the registers, the results, the Standby
Store and the counters kept as R27 and R178 give, a region that was LOADING INVALID with revision 0, and the closing write-back
requested to the status block address last accepted (R36; its fields with no frame begun are log entry 10). An abandoned start keeps
the Standby Store in the same way (R178). -/
def Obligations.StopRequests : Prop :=
  ∀ s : State,
    (s.modes.mode = .stopped → exec .modeRequestStop s = .next s) ∧
    (s.modes.mode = .starting → ∃ t, exec .modeRequestStop s = .next t ∧ t.modes.mode = .stopped ∧ StoppedAtRest t ∧
      t.modes.startResult = .aborted ∧ t.regs = s.regs ∧ StandbyKept s.ss t.ss ∧
      t.sw = { s.sw with cause := s.sw.cause ||| Cause.mode.word, assembled := none }) ∧
    (s.modes.mode = .running ∨ s.modes.mode = .holding →
      (s.modes.pending = .stop → exec .modeRequestStop s = .next s) ∧
      (s.modes.pending ≠ .stop → s.tp.state = .emitting →
        exec .modeRequestStop s = .next { s with modes := { s.modes with pending := .stop } }) ∧
      (s.modes.pending ≠ .stop → s.tp.state ≠ .emitting →
        ∃ t, exec .modeRequestStop s = .next t ∧ t.modes.mode = .stopped ∧ StoppedAtRest t ∧ KeptByStop s t ∧
          t.sw.cause = s.sw.cause ||| Cause.mode.word ∧ t.ft.holdovers = s.ft.holdovers ∧
          t.tp.truncated = s.tp.truncated ∧ ClosingRequested s.statusAddr s.sw.cleared [] s t))

/-! ### Registers (R13, R19, R30, R32) -/

/-- The registers. A source written in CONTROL is followed by the Frame Timer at once in STOPPED (R9, R13) and otherwise waits for a
frame start; the FRAME_MARK enable is stored (R19, R20). A write to ROOT_LO or ROOT_HI is stored in STOPPED, ROOT_HI in its 8 bits,
and ignored in any other mode; writes to IDENT, FRAME_NOW and CAUSE are ignored (R30). The registers lie at the offsets 0x00 to
0x18 of the register port (R194), where a write makes the commands of its fields (R20) and a read returns the fields at their
places (R30, R31). The order of a CONTROL write's commands, the source, the FRAME_MARK enable and then the mode request, is the
model's choice (log entry 15), for R20 gives none. That a read other than CAUSE's is an operation and no command is log entry 28. -/
def Obligations.RegistersReadAndWritten : Prop :=
  ∀ (s : State) (source : FrameSource) (on : Bool) (value : BitVec 32) (reg : RootRegister) (other : ReadOnlyRegister),
    (s.modes.mode ≠ .stopped →
      exec (.frameSourceSelect source) s = .next { s with regs := { s.regs with source := source } }) ∧
    (s.modes.mode = .stopped →
      exec (.frameSourceSelect source) s = .next { s with
        regs := { s.regs with source := source }
        ft := { s.ft with source := source, state := if source = .internal then .internal else .locked } }) ∧
    exec (.frameMarkEnable on) s = .next { s with regs := { s.regs with markEnable := on } } ∧
    (s.modes.mode = .stopped →
      exec (.rootAddressWrite .rootLo value) s = .next { s with regs := { s.regs with rootLo := value } } ∧
      exec (.rootAddressWrite .rootHi value) s =
        .next { s with regs := { s.regs with rootHi := value.extractLsb' 0 8 } }) ∧
    (s.modes.mode ≠ .stopped → exec (.rootAddressWrite reg value) s = .next s) ∧
    exec (.registerWrite other value) s = .next s ∧
    portWrite 0x00 value = [.registerWrite .ident value] ∧ portWrite 0x08 value = [.rootAddressWrite .rootLo value] ∧
    portWrite 0x0C value = [.rootAddressWrite .rootHi value] ∧ portWrite 0x10 value = [.registerWrite .cause value] ∧
    portWrite 0x14 value = [.causeMaskWrite value] ∧ portWrite 0x18 value = [.registerWrite .frameNow value] ∧
    (value.getLsbD 8 = true → portWrite 0x04 value = [.softReset value]) ∧
    (value.getLsbD 8 = false → ∃ request : List Instr,
      portWrite 0x04 value =
        [.frameSourceSelect (if value.getLsbD 4 then .external else .internal), .frameMarkEnable (value.getLsbD 5)] ++ request ∧
      (value.extractLsb' 0 2 = 0#2 → request = []) ∧ (value.extractLsb' 0 2 = 1#2 → request = [.modeRequestRun]) ∧
      (value.extractLsb' 0 2 = 2#2 → request = [.modeRequestHold]) ∧
      (value.extractLsb' 0 2 = 3#2 → request = [.modeRequestStop])) ∧
    exec .causeRead s = .next (portRead 0x10 s) ∧
    (∀ offset, offset ≠ 0x10 → ∃ word, portRead offset s = { s with regs := { s.regs with readData := word } }) ∧
    (portRead 0x00 s).regs.readData = 0x24600001#32 ∧ (portRead 0x08 s).regs.readData = s.regs.rootLo ∧
    (portRead 0x0C s).regs.readData = s.regs.rootHi.setWidth 32 ∧ (portRead 0x14 s).regs.readData = s.sw.mask.setWidth 32 ∧
    (let w := (portRead 0x04 s).regs.readData
     w.getLsbD 4 = decide (s.regs.source = .external) ∧ w.getLsbD 5 = s.regs.markEnable ∧
      ∀ k, k ≠ 4 → k ≠ 5 → w.getLsbD k = false) ∧
    (let w := (portRead 0x18 s).regs.readData
     w.extractLsb' 0 2 = BitVec.ofNat 2 s.modes.mode.code ∧ w.extractLsb' 2 2 = BitVec.ofNat 2 s.modes.pending.code ∧
      w.extractLsb' 4 2 = BitVec.ofNat 2 s.ft.state.code ∧ w.extractLsb' 6 2 = 0#2 ∧
      w.extractLsb' 8 4 = BitVec.ofNat 4 s.modes.startResult.code ∧ w.extractLsb' 12 4 = 0#4 ∧
      w.extractLsb' 16 16 = s.tp.lastSerial.setWidth 16)

/-- A read of CAUSE returns the bits set and clears exactly those; a write of CAUSE_MASK takes effect at once; IRQ is asserted
exactly while some bit is set in both (R32). -/
def Obligations.CauseAndMask : Prop :=
  ∀ (s : State) (value : BitVec 32),
    exec .causeRead s = .next { s with
      regs := { s.regs with readData := s.sw.cause.setWidth 32 }, sw := { s.sw with cause := 0 } } ∧
    exec (.causeMaskWrite value) s = .next { s with sw := { s.sw with mask := value.extractLsb' 0 10 } } ∧
    (s.irq = true ↔ ∃ k, k < 10 ∧ s.sw.cause.getLsbD k = true ∧ s.sw.mask.getLsbD k = true)

/-- The root address held changes only by a write of its registers taken in STOPPED, or by power-on reset (R29, R30). -/
def Obligations.RootAddressHeldWhileRunning : Prop :=
  ∀ (c : Instr) (s t : State), exec c s = .next t → t.rootAddress ≠ s.rootAddress →
    c = .powerOnReset ∨ (s.modes.mode = .stopped ∧ ∃ reg value, c = .rootAddressWrite reg value)

/-- A set bit stays set until a read of CAUSE clears it or a reset clears CAUSE (R32). -/
def Obligations.CauseBitsStaySet : Prop :=
  ∀ (c : Instr) (s t : State) (k : Nat), exec c s = .next t → s.sw.cause.getLsbD k = true →
    t.sw.cause.getLsbD k = true ∨ c = .causeRead ∨ c = .powerOnReset ∨ ∃ word, c = .softReset word

/-! ### The Frame Timer (R9 to R12, R19) -/

/-- An edge on FRAME_IN (R9, R11, R12): ignored by a stopped timer and in INTERNAL; in LOCKED counted as spurious before 44 ms
and accepted from 44 ms, the first one at any time; in HOLDOVER recorded as the edge phase before 44 ms, and from 44 ms
accepted with LOCKED and CLOCK. The starts are shown in STARTING before the sequence has succeeded, where they begin
nothing, and in RUNNING and HOLDING, where the Frame Timer's own state follows, under the source in force. That the model's clock
moves to the start is log entry 2. -/
def Obligations.FrameInEdges : Prop :=
  ∀ (s : State) (t : Nat),
    (s.ft.timingFrom = none ∨ s.ft.state = .internal → exec (.frameInEdge t) s = .next s) ∧
    (s.ft.timingIn .locked = true → s.ft.lastStart ≠ none → t < 44000 →
      exec (.frameInEdge t) s = .next { s with ft := { s.ft with spurious := s.ft.spurious + 1 } }) ∧
    (s.ft.timingIn .holdover = true → t < 44000 →
      exec (.frameInEdge t) s = .next { s with ft := { s.ft with edgePhase := some t } }) ∧
    (s.modes.mode = .starting → s.modes.stage ≠ .endedOk → s.ft.source = s.regs.source →
      (s.ft.timingIn .locked = true → s.ft.lastStart = none ∨ 44000 ≤ t →
        exec (.frameInEdge t) s = .next (startedBefore (s.ft.base + t) s)) ∧
      (s.ft.timingIn .holdover = true → 44000 ≤ t →
        exec (.frameInEdge t) s = .next (startedBefore (s.ft.base + t) { s with
          ft := { s.ft with state := .locked, edgePhase := none }
          sw := { s.sw with cause := s.sw.cause ||| Cause.clock.word } }))) ∧
    (s.modes.mode = .running ∨ s.modes.mode = .holding → s.modes.pending ≠ .stop → s.ft.cutOffMade = true →
      s.ft.source = s.regs.source →
      (s.ft.timingIn .locked = true → s.ft.lastStart = none ∨ 44000 ≤ t → ∃ u, exec (.frameInEdge t) s = .next u ∧
        u.ft = s.ft.begun (s.ft.base + t) s.regs.markEnable ∧ u.caused .clock = s.caused .clock) ∧
      (s.ft.timingIn .holdover = true → 44000 ≤ t → ∃ u, exec (.frameInEdge t) s = .next u ∧
        u.ft = FrameTimer.begun (s.ft.base + t) s.regs.markEnable { s.ft with state := .locked, edgePhase := none } ∧
        u.caused .clock = true))

/-- The timer's own starts (R10 to R12): INTERNAL at 48 ms; LOCKED at 52 ms with HOLDOVER entered, CLOCK raised and a holdover
frame counted; HOLDOVER at its period, the next one set from the edge phase. An expiry of a state the timer is not in does
nothing (log entry 4). The starts are shown in STARTING before the sequence has succeeded, and in RUNNING and HOLDING, where the
Frame Timer's own state follows, under the source in force. That the model's clock moves to the start is log entry 2. -/
def Obligations.TimerExpiries : Prop :=
  ∀ s : State,
    (s.ft.timingIn .internal = false → exec .internalPeriodExpiry s = .next s) ∧
    (s.ft.timingIn .locked = false → exec .lockedDeadline s = .next s) ∧
    (s.ft.timingIn .holdover = false → exec .holdoverPeriodExpiry s = .next s) ∧
    (s.modes.mode = .starting → s.modes.stage ≠ .endedOk → s.ft.source = s.regs.source →
      (s.ft.timingIn .internal = true →
        exec .internalPeriodExpiry s = .next (startedBefore (s.ft.base + 48000) s)) ∧
      (s.ft.timingIn .locked = true →
        exec .lockedDeadline s = .next (startedBefore (s.ft.base + 52000) { s with
          ft := { s.ft with
            state := .holdover, period := 48, edgePhase := none, holdovers := s.ft.holdovers + 1 }
          sw := { s.sw with cause := s.sw.cause ||| Cause.clock.word } })) ∧
      (s.ft.timingIn .holdover = true →
        exec .holdoverPeriodExpiry s = .next (startedBefore (s.ft.base + 1000 * s.ft.period) { s with
          ft := { s.ft with
            period := holdoverPeriod s.ft.edgePhase, edgePhase := none, holdovers := s.ft.holdovers + 1 } }))) ∧
    (s.modes.mode = .running ∨ s.modes.mode = .holding → s.modes.pending ≠ .stop → s.ft.cutOffMade = true →
      s.ft.source = s.regs.source →
      (s.ft.timingIn .internal = true → ∃ u, exec .internalPeriodExpiry s = .next u ∧
        u.ft = s.ft.begun (s.ft.base + 48000) s.regs.markEnable ∧ u.caused .clock = s.caused .clock) ∧
      (s.ft.timingIn .locked = true → ∃ u, exec .lockedDeadline s = .next u ∧
        u.ft = FrameTimer.begun (s.ft.base + 52000) s.regs.markEnable { s.ft with
          state := .holdover, period := 48, edgePhase := none, holdovers := s.ft.holdovers + 1 } ∧
        u.caused .clock = true) ∧
      (s.ft.timingIn .holdover = true → ∃ u, exec .holdoverPeriodExpiry s = .next u ∧
        u.ft = FrameTimer.begun (s.ft.base + 1000 * s.ft.period) s.regs.markEnable { s.ft with
          period := holdoverPeriod s.ft.edgePhase, edgePhase := none, holdovers := s.ft.holdovers + 1 } ∧
        u.caused .clock = s.caused .clock))

/-- The opening start (R24), at whichever command takes the first frame start after a sequence that ended OK: RUNNING with MODE
raised, the assembly period of frame 0 begun and the root poll requested, the port left as it is, no serial consumed, FRAME_MARK
pulsed when enabled. It requests no write-back (R35). The slots of every service are polled and the pictures' requests made as at any
start that begins an assembly period (R16, R60, R61, R120). -/
def Obligations.OpeningStart : Prop :=
  ∀ (c : Instr) (at_ : Nat) (s : State), TakesStart s c at_ → s.modes.mode = .starting → s.modes.stage = .endedOk →
    ∃ t, exec c s = .next t ∧ t.modes = { s.modes with mode := .running, stage := .idle } ∧ t.caused .mode = true ∧
      t.ft.lastStart = some at_ ∧ t.ft.nextSerial = s.ft.nextSerial ∧ t.ft.pollsMade = 0 ∧ t.ft.cutOffMade = false ∧
      t.ft.frameMarks = s.ft.frameMarks + countIf s.regs.markEnable ∧ t.tp = s.tp ∧ t.completed = s.completed ∧
      t.pm = s.pm ∧ t.ac = s.ac ∧ t.ss = s.ss ∧ t.alr = s.alr ∧ t.tgp = s.tgp ∧ t.regs = s.regs ∧
      t.sw.current = s.sw.current ∧ t.sw.held = s.sw.held ∧ t.sw.coalesced = s.sw.coalesced ∧
      Requested .rootPoll none s.rootAddress 128 t ∧ ((s.services.map (·.sid)).Nodup → AssemblyBegun s t)

/-- A frame start in RUNNING or HOLDING with no STOP waiting (R14, R16, R17): the completed frame is taken and its emission
begins at position 0 under the next serial, a frame still EMITTING is truncated and counted, the next assembly period begins,
and the root poll is requested. The write-back of the frame's snapshot is requested, to the status block address last accepted
(R35). For the next frame, when it is fixed RUNNING, every service, DORMANT or not, and the alert slot of an ACTIVE frame begin with
fresh slot-read records and are polled (R60, R61, R76), and PE makes its requests (R120); when it is fixed HOLDING, none of these. A
source change that waits applies: INTERNAL or LOCKED with CLOCK raised when the state changes (R13). -/
def Obligations.FrameStartEmits : Prop :=
  ∀ (c : Instr) (at_ : Nat) (s : State), TakesStart s c at_ → s.modes.mode = .running ∨ s.modes.mode = .holding →
    s.modes.pending ≠ .stop → s.ft.cutOffMade = true →
    ∃ t, exec c s = .next t ∧
      t.tp = { s.tp with
        state := .emitting, frame := s.completed, serial := s.ft.nextSerial, position := 0
        truncated := s.tp.truncated + BitVec.ofNat 32 (countIf (s.tp.state == .emitting))
        lastSerial := s.ft.nextSerial, lastMode := s.completed.map (·.mode) } ∧
      t.completed = none ∧ t.modes = s.modes ∧ t.ft.lastStart = some at_ ∧ t.ft.nextSerial = s.ft.nextSerial + 1 ∧
      t.ft.pollsMade = 0 ∧ t.ft.cutOffMade = false ∧
      t.ft.frameMarks = s.ft.frameMarks + countIf s.regs.markEnable ∧
      t.pm = s.pm ∧ t.ac = s.ac ∧ t.ss = s.ss ∧ t.alr = s.alr ∧ t.tgp = s.tgp ∧ t.regs = s.regs ∧
      Requested .rootPoll none s.rootAddress 128 t ∧ ((s.services.map (·.sid)).Nodup → AssemblyBegun s t) ∧
      t.sw.assembled = none ∧
      (s.sw.assembled = none → t.sw.current = s.sw.current ∧ t.sw.held = s.sw.held ∧ t.sw.coalesced = s.sw.coalesced) ∧
      (∀ body, s.sw.assembled = some body →
        WritebackRequested { addr := s.statusAddr, body := body } s.sw s.mp.waiting t) ∧
      t.ft.source = s.regs.source ∧
      (s.ft.source ≠ s.regs.source → t.ft.period = 48 ∧ t.ft.edgePhase = none ∧
        (s.regs.source = .internal → t.ft.state = .internal ∧ (s.ft.state ≠ .internal → t.caused .clock = true)) ∧
        (s.regs.source = .external → t.ft.state = .locked ∧ (s.ft.state = .internal → t.caused .clock = true)))

/-- A STOP carried out at a frame start (R18, R27): no frame is begun and no serial consumed, the frame in emission is truncated
and counted, FRAME_MARK is pulsed when enabled, the device is STOPPED at rest with what R27 and R178 keep kept, and the closing
write-back is requested (R36; its fields with no frame begun are log entry 10). -/
def Obligations.StopAtFrameStart : Prop :=
  ∀ (c : Instr) (at_ : Nat) (s : State), TakesStart s c at_ → s.modes.mode = .running ∨ s.modes.mode = .holding →
    s.modes.pending = .stop → s.ft.cutOffMade = true →
    ∃ t, exec c s = .next t ∧ t.modes.mode = .stopped ∧ StoppedAtRest t ∧ KeptByStop s t ∧ t.caused .mode = true ∧
      t.tp.truncated = s.tp.truncated + BitVec.ofNat 32 (countIf (s.tp.state == .emitting)) ∧
      t.tp.lastSerial = s.tp.lastSerial ∧ t.ft.nextSerial = 0 ∧
      t.ft.frameMarks = s.ft.frameMarks + countIf s.regs.markEnable ∧
      ClosingRequested s.statusAddr s.sw.cleared [] s t

/-! ### The Transport Port (R17, R18) -/

/-- TX_READY's level is taken, and the bytes sent while it was asserted in EMITTING move the position, which goes no further
than the last byte; the last byte ends the emission with SENT, or, when a STOP waits, with STOPPED at rest, what R27 keeps kept and
the closing write-back requested (R17, R18, R27, R36; log entry 10; no CLOCK, log entry 11). A last byte that the port cannot
have sent has no effect (log entry 4). That the position goes no further by TX_READY is log entry 15, and that it stands at the last
byte in SENT is log entry 29. -/
def Obligations.EmissionAdvances : Prop :=
  ∀ (s : State) (level : Bool) (sent : Nat),
    (s.tp.state = .emitting → s.tp.ready = true →
      exec (.txReadyChange level sent) s =
        .next { s with tp := { s.tp with ready := level, position := min (s.tp.position + sent) 19345 } }) ∧
    (s.tp.state ≠ .emitting ∨ s.tp.ready = false →
      exec (.txReadyChange level sent) s = .next { s with tp := { s.tp with ready := level } } ∧
      exec .lastByteSent s = .next s) ∧
    (s.tp.state = .emitting → s.tp.ready = true → s.modes.pending ≠ .stop →
      exec .lastByteSent s = .next { s with tp := { s.tp with state := .sent, position := 19345 } }) ∧
    (s.tp.state = .emitting → s.tp.ready = true → s.modes.pending = .stop →
      ∃ t, exec .lastByteSent s = .next t ∧ t.modes.mode = .stopped ∧ StoppedAtRest t ∧ KeptByStop s t ∧
        t.sw.cause = s.sw.cause ||| Cause.mode.word ∧ t.ft.holdovers = s.ft.holdovers ∧
        t.tp.truncated = s.tp.truncated ∧ t.tp.lastSerial = s.tp.lastSerial ∧
        ClosingRequested s.statusAddr s.sw.cleared [] s t)

/-! ### The timeline (R15, R61) -/

/-- A poll offset, the next of the four before the cut-off (R15, R61): the header of the slot for the frame being assembled is
requested for every service whose record is IDLE and which is not DORMANT, and the record's phase becomes HEADER; every other
record stays as it was. The alert slot is polled whenever its record is IDLE (R76). -/
def Obligations.PollOffsetPolls : Prop :=
  ∀ s : State, s.inAssembly = true → s.ft.cutOffMade = false → s.ft.pollsMade < 4 → (s.services.map (·.sid)).Nodup →
    ∃ t, exec .pollOffset s = .next t ∧ t.ft = { s.ft with pollsMade := s.ft.pollsMade + 1 } ∧
      t.modes = s.modes ∧ t.pm = s.pm ∧ t.ac = s.ac ∧ t.tp = s.tp ∧ t.alr = s.alr ∧ t.regs = s.regs ∧
      (∀ v ∈ s.services, ∀ r e, v.slot = some r → s.entryOf v.sid = some e →
        (r.phase = .idle → v.contribution.substitution ≠ .dormant →
          t.slotRead (.service v.sid) = some { r with phase := .header } ∧
          Requested (.slotHeader (.service v.sid)) none
            (slotAddress e.ringBase e.ringDepth (32 * e.cells) s.ft.nextSerial) 5 t) ∧
        (r.phase ≠ .idle ∨ v.contribution.substitution = .dormant → t.slotRead (.service v.sid) = some r)) ∧
      (s.alertSlot = none → t.alertSlot = none) ∧
      (∀ a, s.alertSlot = some a → a.slot.phase ≠ .idle → t.alertSlot = some a) ∧
      (∀ a, s.alertSlot = some a → a.slot.phase = .idle →
        t.alertSlot = some { a with slot := { a.slot with phase := .header } } ∧
        Requested (.slotHeader .alert) none (slotAddress a.base a.depth a.size s.ft.nextSerial) 5 t)

/-! ### The cut-off (R7, R8, R15, R26, R49 to R52, R161, R165, R174) -/

/-- A cut-off for a frame fixed HOLDING (R7, R8, R15, R26): the frame is completed under the serial that the next start gives,
19,346 bytes long, with a payload of zeros; the state of the services stays as it was unless a switch is fixed. A second
cut-off in one assembly period, or one in another mode, does nothing (log entry 4). -/
def Obligations.CutOffCompletesHoldingFrame : Prop :=
  ∀ s : State,
    (s.inAssembly = false ∨ s.ft.cutOffMade = true → exec .cutOff s = .next s) ∧
    (s.modes.mode = .holding → s.ft.cutOffMade = false →
      ∃ t f, exec .cutOff s = .next t ∧ t.ft.cutOffMade = true ∧ t.completed = some f ∧
        f.serial = s.ft.nextSerial ∧ f.mode = .holding ∧ f.payload = List.replicate 19200 0 ∧ f.bytes.length = 19346 ∧
        t.tp = s.tp ∧ t.regs = s.regs ∧ t.alr = s.alr ∧ t.ft.nextSerial = s.ft.nextSerial ∧
        (s.pm.state ≠ .countdown ∨ 2 ≤ s.pm.countdown → t.services = s.services))

/-- A cut-off completes a RUNNING frame under the serial that the next start gives, and ends every slot read of it: the
records of the plan's services and of the alert ring end, and no slot transfer waits or stays on the bus unwithdrawn (R8, R15,
R60, R66). -/
def Obligations.CutOffEndsSlotReads : Prop :=
  ∀ s : State, s.modes.mode = .running → s.ft.cutOffMade = false →
    ∃ t f, exec .cutOff s = .next t ∧ t.ft.cutOffMade = true ∧ t.completed = some f ∧
      f.serial = s.ft.nextSerial ∧ f.mode = .running ∧ t.alertSlot = none ∧
      t.tp = s.tp ∧ t.regs = s.regs ∧ t.alr = s.alr ∧ t.ft.nextSerial = s.ft.nextSerial ∧
      ((∀ v ∈ s.services, (s.entryOf v.sid).isSome = true) → ∀ v ∈ t.services, v.slot = none) ∧
      (∀ r ∈ t.mp.waiting, r.purpose.isSlot = false) ∧
      (∀ g, some g ∈ t.mp.slots.toList → g.request.purpose.isSlot = true → g.withdrawn = true)

/-- The header of the frame that a cut-off completes (R4, R5): the sync pattern, the serial as frame number and serial high, the
ACTIVE plan's number, the countdown, next plan number and CANCELLED as PM fixed them, HOLDING by the mode and HOLDOVER by the Frame
Timer, phase, level and id as AC fixed them, the sub-channel count, and the CRC over those 14 bytes (R3). The trailer is the CRC of
the payload, and the four parts are emitted in order (R1). -/
def Obligations.FrameHeaderWritten : Prop :=
  ∀ (s : State) (p : Plan), s.inAssembly = true → s.ft.cutOffMade = false → s.pm.active = .ready p →
    ∃ t f, exec .cutOff s = .next t ∧ t.completed = some f ∧
      (let level := (s.ac.copy.map (·.level)).getD 0
       let fields : List Byte :=
        [0xB2, 0x6E, 0x35, s.ft.nextSerial.extractLsb' 8 8, s.ft.nextSerial.extractLsb' 0 8,
         s.ft.nextSerial.extractLsb' 24 8, s.ft.nextSerial.extractLsb' 16 8,
         p.number, BitVec.ofNat 8 s.pm.countdown, s.pm.nextNumber,
         BitVec.ofNat 8 (countIf (s.modes.mode == .holding) + 2 * countIf (s.ft.state == .holdover) + 4 * countIf s.pm.cancelled),
         BitVec.ofNat 8 (s.ac.phase.code + 16 * (level % 4)), (s.ac.copy.map (·.alertId)).getD 0,
         BitVec.ofNat 8 p.entries.length]
       f.header = fields ++ [(crc16 fields).extractLsb' 8 8, (crc16 fields).extractLsb' 0 8]) ∧
      f.trailer = [(crc16 f.payload).extractLsb' 8 8, (crc16 f.payload).extractLsb' 0 8] ∧
      f.bytes = f.header ++ f.directory ++ f.payload ++ f.trailer ∧ f.header.length = 16

/-- The directory of the frame that a cut-off completes (R135 to R146), RUNNING or HOLDING: an ALERT record when a phase is fixed,
with the effective frame of R140 and R141; a part of the announced plan while a countdown runs, from part 0 at 16; then records of
the carousel from its position, or from 0 in a switch frame, until one does not fit or the cycle is done; then fill, to 126 bytes,
and their CRC (R6). The generator's state follows. -/
def Obligations.DirectoryFilled : Prop :=
  ∀ (s : State) (p q : Plan), s.inAssembly = true → s.ft.cutOffMade = false → s.pm.active = .ready p →
    (s.pm.countdown ≠ 0 → s.pm.staged = .ready q) → (s.ac.phase ≠ .none → s.ac.copy ≠ none) →
    let frame := s.ft.nextSerial
    let run : Option RunRecord := if s.ac.phase = .active then s.ac.copy.map (fun e =>
        if s.dg.run.map (fun r => (r.source, r.alertId)) = some (e.source, e.alertId)
        then { source := e.source, alertId := e.alertId, serial := (s.dg.run.map (·.serial)).getD 0 }
        else { source := e.source, alertId := e.alertId, serial := frame })
      else none
    let effective (e : AlertEntry) : U32 := match s.ac.phase with
      | .announcing => frame + 3 - BitVec.ofNat 32 e.announce
      | .active => (run.map (·.serial)).getD 0
      | .releasing => frame + 1
      | .none => 0
    let alert (e : AlertEntry) : List Byte := dirRecord 5
      ([e.alertId, BitVec.ofNat 8 e.level, BitVec.ofNat 8 s.ac.phase.code, e.mask, BitVec.ofNat 8 e.source.code] ++
        be 2 (e.remaining * 6 / 125) ++ be32 (effective e))
    let part := if s.pm.countdown = 16 then 0 else s.dg.nextPart
    let first := (if s.ac.phase = .none then [] else (s.ac.copy.map alert).getD []) ++
      (if s.pm.countdown = 0 then [] else dirPart 2 s.pm.nextNumber part q.entries)
    let start := if s.dg.lastCountdown = 1 ∧ s.pm.countdown = 0 then 0 else s.dg.position
    let cycle := (p.entries.length + 7) / 8 + p.entries.length + 1
    let place (j : Nat) := if j = 0 then start else (start + j) % cycle
    let record (j : Nat) := dirCarousel p frame (dirTime s.cp.accepted frame) (place j)
    ∃ t f n, exec .cutOff s = .next t ∧ t.completed = some f ∧
      (let records := first ++ (List.range n).flatMap record
       let field := records ++ List.replicate (126 - records.length) 0
       field.length = 126 ∧ f.directory = field ++ [(crc16 field).extractLsb' 8 8, (crc16 field).extractLsb' 0 8] ∧
        n ≤ cycle ∧ (n = cycle ∨ 126 < records.length + (record n).length)) ∧
      t.dg = {
        position := place n
        nextPart := if s.pm.countdown = 0 then s.dg.nextPart else (part + 1) % ((q.entries.length + 7) / 8)
        lastCountdown := s.pm.countdown
        run := run }

/-- The plan fixed for the next frame at a cut-off (R49 to R52): a countdown begun at 16 with the switch serial 17 frames on,
counted down, ended by the switch with PLAN raised, or cancelled; otherwise the ACTIVE plan with countdown 0. At the switch the
services are those of the new plan: a matched one with RESTART clear is carried over from the state that the frame's work left, its
repeat buffer while it fits and while the ring base stands, its credits clamped, its label and its picture while their addresses
stand; any other begins with the reset state; and the transfers of what is dropped or reset are withdrawn, while the others go on
(R54 to R57, R96). Without a switch the services stay as the work left them. A request held at the switch, or remembered at the
cancel, is then taken in IDLE: an address begins its load, and 0 does nothing (R45, R51, R52). -/
def Obligations.CutOffFixesPlan : Prop :=
  ∀ s : State, s.inAssembly = true → s.ft.cutOffMade = false →
    let loading (a : Addr) (m : PlanManager) : PlanManager := { m with
      staged := .filling, state := .loading, load := some { toActive := false, addr := a, header := none, bytes := [] } }
    (∀ p, s.pm.state = .idle → s.pm.staged = .ready p →
      ∃ t, exec .cutOff s = .next t ∧ t.pm = { s.pm with
        countdown := 16, nextNumber := p.number, cancelled := false, state := .countdown
        switchSerial := s.ft.nextSerial + 17 }) ∧
    (∀ p, s.pm.state = .countdown → s.pm.staged = .ready p → 2 ≤ s.pm.countdown →
      ∃ t, exec .cutOff s = .next t ∧ t.pm = { s.pm with
        countdown := s.pm.countdown - 1, nextNumber := p.number, cancelled := false }) ∧
    (∀ p, s.pm.state = .countdown → s.pm.staged = .ready p → s.pm.countdown = 1 →
      let switched : PlanManager := { s.pm with
        active := .ready p, staged := .empty, countdown := 0, nextNumber := p.number, cancelled := false
        state := .idle, lastResult := .switched, held := none }
      ∃ t, exec .cutOff s = .next t ∧ t.caused .plan = true ∧
        (s.pm.held = none ∨ s.pm.held = some 0 → t.pm = switched) ∧
        (∀ a, s.pm.held = some a → a ≠ 0 → t.pm = loading a switched ∧ Requested .planLoad none a 16 t) ∧
        (∀ q, s.pm.active = .ready q → PlansSound s → (s.services.map (·.sid)).Nodup →
          SwitchCarried q.entries p.entries s.ft.nextSerial (worked s) t)) ∧
    (s.pm.state = .cancelling →
      let cancelled : PlanManager := { s.pm with
        staged := .empty, countdown := 0, nextNumber := s.pm.active.number, cancelled := true, state := .idle
        lastResult := .cancelled, remembered := none }
      ∃ t, exec .cutOff s = .next t ∧ t.caused .plan = true ∧
        (s.pm.remembered = none ∨ s.pm.remembered = some 0 → t.pm = cancelled) ∧
        (∀ a, s.pm.remembered = some a → a ≠ 0 → t.pm = loading a cancelled ∧ Requested .planLoad none a 16 t)) ∧
    (s.pm.state = .loading ∨ s.pm.state = .idle ∧ s.pm.staged = .empty →
      ∃ t, exec .cutOff s = .next t ∧
        t.pm = { s.pm with countdown := 0, nextNumber := s.pm.active.number, cancelled := false }) ∧
    (s.pm.state ≠ .countdown ∨ 2 ≤ s.pm.countdown → ∃ t, exec .cutOff s = .next t ∧ t.services = (worked s).services) ∧
    (s.modes.mode = .holding → (worked s).services = s.services)

/-- The mode fixed for the next frame at a cut-off, row by row of the table of R25, on the Alert Queue as the requests that wait leave
it, the telegram first (R165). A HOLD is carried out unless an entry of level 3 announces, is ACTIVE or is RELEASING, or one is
inserted at this cut-off. A level-3 insertion resumes HOLDING with EMERGENCY: an ALERT of level 3 that matches no entry of a queue
with room is one, and one that only updates an entry is none (R168). A RUN in HOLDING is taken whatever waits. MODE is raised with a
change, and not otherwise. -/
def Obligations.CutOffFixesMode : Prop :=
  ∀ s : State, s.inAssembly = true → s.ft.cutOffMade = false → ∃ t, exec .cutOff s = .next t ∧
    let a := requestsApplied s
    let kept : Prop := t.modes = s.modes ∧ t.caused .mode = s.caused .mode
    let blocked : Prop := a.level3Inserted = true ∨ ∃ e ∈ a.queue, e.level = 3 ∧ e.state ≠ .waiting
    (s.modes.mode = .running → s.modes.pending ≠ .hold → kept) ∧
    (s.modes.mode = .running → s.modes.pending = .hold → (blocked → kept) ∧
      (¬ blocked → t.modes = { s.modes with mode := .holding, pending := .none } ∧ t.caused .mode = true)) ∧
    (s.modes.mode = .holding → s.modes.pending = .run →
      t.modes = { s.modes with mode := .running, pending := .none, resume := .request } ∧ t.caused .mode = true) ∧
    (s.modes.mode = .holding → s.modes.pending ≠ .run →
      (a.level3Inserted = true →
        t.modes = { s.modes with mode := .running, resume := .emergency } ∧ t.caused .mode = true) ∧
      (a.level3Inserted = false → kept)) ∧
    (NoRequest s → a.level3Inserted = false ∧ a.queue = s.ac.queue) ∧
    (∀ r, OneRequest s r → r.isClear = false → r.level = 3 →
      ((∀ e ∈ s.ac.queue, e.key ≠ (r.source, r.alertId)) → s.ac.queue.length < 4 →
        (s.modes.mode = .running → s.modes.pending = .hold → kept) ∧
        (s.modes.mode = .holding → s.modes.pending ≠ .run →
          t.modes = { s.modes with mode := .running, resume := .emergency } ∧ t.caused .mode = true)) ∧
      ((∃ e ∈ s.ac.queue, e.key = (r.source, r.alertId)) → s.modes.mode = .holding → s.modes.pending ≠ .run → kept))

/-- The alert phase fixed for the next frame at a cut-off, on a queue as R167 has it and as the requests that wait leave it, the
telegram first, the parser back in HUNT (R161, R165): in a frame fixed RUNNING by the rows of R172 and R173 and by R174, and in one
fixed HOLDING by R171, with phase NONE. The copy is the current entry after the fixing; the targets are the services of the plan fixed
whose mask meets the entry's, in an ACTIVE frame alone (R176). ALERT is raised when the phase or the current entry differs from the
frame before (R175), and with no request waiting only then. -/
def Obligations.CutOffFixesPhase : Prop :=
  ∀ s : State, s.inAssembly = true → s.ft.cutOffMade = false → QueueSound s.ac →
    let a := requestsApplied s
    ∃ t current, exec .cutOff s = .next t ∧ t.ac.copy = current ∧ t.ac.phase = phaseOf current ∧
      (t.modes.mode = .running → PhaseFixed a.queue t.ac.queue current) ∧
      (t.modes.mode = .holding → PhaseHeld a.queue t.ac.queue ∧ current = none) ∧
      (t.ac.phase ≠ .active → t.ac.targets = []) ∧
      (∀ e, current = some e → t.ac.phase = .active → ∀ plan, t.pm.active = .ready plan →
        t.ac.targets = (plan.entries.filter (fun x => x.mask &&& e.mask != 0)).map (·.sid)) ∧
      t.ac.drops = a.drops ∧ t.ac.cell = a.cell ∧
      (s.tgp.hold ≠ none → t.tgp = { s.tgp with hold := none, state := .hunt }) ∧ (s.tgp.hold = none → t.tgp = s.tgp) ∧
      (t.ac.phase ≠ s.ac.phase ∨ t.ac.copy.map AlertEntry.key ≠ s.ac.copy.map AlertEntry.key → t.caused .alert = true) ∧
      (NoRequest s → a.queue = s.ac.queue ∧ a.drops = s.ac.drops ∧ a.cell = s.ac.cell ∧
        (t.ac.phase = s.ac.phase → t.ac.copy.map AlertEntry.key = s.ac.copy.map AlertEntry.key →
          t.caused .alert = s.caused .alert))

/-- A telegram held at a cut-off with the queue empty and no HOLD waiting (R161, R165, R169, R174, R175): the parser returns to
HUNT, the alert is inserted with its duration in frames and begins to announce in the next frame, with no targets, and ALERT is
raised. -/
def Obligations.CutOffTakesTelegram : Prop :=
  ∀ (s : State) (m : Telegram), s.modes.mode = .running → s.modes.pending ≠ .hold → s.ft.cutOffMade = false →
    s.tgp.hold = some m → m.isClear = false → s.ac.queue = [] → s.ac.cell = none →
    ∃ t e, exec .cutOff s = .next t ∧ t.tgp = { s.tgp with hold := none, state := .hunt } ∧ t.ac.queue = [e] ∧
      e.source = .telegram ∧ e.alertId = m.alertId ∧ e.level = m.level.toNat ∧ e.mask = m.mask ∧ e.text = m.text ∧
      e.remaining = durationFrames m.duration ∧ e.state = .announcing ∧ e.announce = 1 ∧ e.endMark = false ∧
      t.ac.phase = .announcing ∧ t.ac.copy = some e ∧ t.ac.targets = [] ∧ t.caused .alert = true ∧
      t.modes.mode = .running ∧ t.tp = s.tp ∧ t.regs = s.regs ∧ t.alr = s.alr

/-! ### Timers that packings count (R110, R114, R129) -/

/-- The expiry of a label's step timer. Of a service's scrolling label, ENABLED, in credit mode OWN (R110): a complete instance steps
by S, forwards or in reverse, and is built afresh; an incomplete one makes the step pending, or loses it with a slip counted. The
timer is set to I again. Of a target whose alert label scrolls (R114): the same forwards, a further expiry of an incomplete
instance changing nothing more, and the own label, its slip count among it, stays as it is (R112); its timer is set to the interval
that the alert label was built with, which is log entry 12. No other service and no other block changes. That the rows commanded
alone act whatever the timer's count is log entry 7, and that the credit mode is the annex record's is log entry 30. A frame that is not fixed RUNNING has no packing, and the timers stand still in
it (R26, R109; log entries 4 and 7). -/
def Obligations.LabelStepsExpire : Prop :=
  (∀ (s : State) (v : Service) (p : LabelParams), s.modes.mode = .running → v ∈ s.services → (s.services.map (·.sid)).Nodup →
      v.annex.mode = .own → v.label.buffer = some p → p.enabled = true → p.scrolls = true →
      ∃ w, exec (.labelStepTimerExpiry v.sid) s =
          .next { s with services := s.services.map (fun x => if x.sid = v.sid then w else x) } ∧
        w = { v with label := { v.label with run := w.label.run, slips := w.label.slips } } ∧
        w.label.run.timer = p.interval ∧
        (p.passes ≤ v.label.run.passCount →
          (w.label.run.position : Int) =
            (v.label.run.position + (if p.reversed then -1 else 1) * p.stepSize) % (p.body + p.gap : Nat) ∧
          w.label.run.chars = some (p.instanceText w.label.run.position) ∧
          w.label.run.serial = v.label.run.serial + 1 ∧ w.label.run.toggle = !v.label.run.toggle ∧
          w.label.run.segment = 0 ∧ w.label.run.passCount = 0 ∧
          w.label.run.stepPending = v.label.run.stepPending ∧ w.label.slips = v.label.slips) ∧
        (v.label.run.passCount < p.passes →
          w.label.run = { v.label.run with timer := p.interval, stepPending := true } ∧
          w.label.slips = if v.label.run.stepPending then min 65535 (v.label.slips + 1) else v.label.slips)) ∧
  (∀ (s : State) (v : Service) (a : AlertLabel), s.modes.mode = .running → v ∈ s.services → (s.services.map (·.sid)).Nodup →
      v.annex.mode = .alert → v.label.alert = some a → a.params.scrolls = true → a.params.reversed = false →
      ∃ r : LabelRun, exec (.alertStepTimerExpiry v.sid) s =
          .next { s with services := s.services.map (fun x =>
            if x.sid = v.sid then { v with label := { v.label with alert := some { a with run := r } } } else x) } ∧
        r.timer = a.params.interval ∧
        (a.params.passes ≤ a.run.passCount →
          r.position = (a.run.position + a.params.stepSize) % (a.params.body + a.params.gap) ∧
          r.chars = some (a.params.instanceText r.position) ∧ r.serial = a.run.serial + 1 ∧
          r.toggle = !a.run.toggle ∧ r.segment = 0 ∧ r.passCount = 0) ∧
        (a.run.passCount < a.params.passes →
          r = { a.run with timer := a.params.interval, stepPending := true })) ∧
  (∀ (s : State) (sid : U16), s.modes.mode ≠ .running →
      exec (.labelStepTimerExpiry sid) s = .next s ∧ exec (.alertStepTimerExpiry sid) s = .next s)

/-- The dwell timer of a service in credit mode OWN reaches 0 in a frame fixed RUNNING: the carousel becomes IDLE (R129). Nothing else
changes. In credit mode ALERT and in a frame fixed HOLDING the timer is left as it is (R129); in another mode, and out of
DWELLING, the expiry does nothing (log entry 4). That the row commanded alone acts whatever count the timer stands at is log entry
7, and that the credit mode is the annex record's is log entry 30. -/
def Obligations.DwellExpires : Prop :=
  ∀ (s : State) (v : Service), v ∈ s.services → (s.services.map (·.sid)).Nodup →
    (s.modes.mode = .running → v.annex.mode = .own → v.picture.carousel = .dwelling →
      exec (.dwellTimerExpiry v.sid) s = .next { s with services := s.services.map (fun x =>
        if x.sid = v.sid then { v with picture := { v.picture with carousel := .idle, dwellTimer := 0 } } else x) }) ∧
    (s.modes.mode ≠ .running ∨ v.annex.mode = .alert ∨ v.picture.carousel ≠ .dwelling →
      exec (.dwellTimerExpiry v.sid) s = .next s)

/-! ### What the blocks compute (R2, R69 to R72, R94, R166, R169, R170) -/

/-- The CRC of covered bytes is the register from 0xFFFF after their bits, one by one, the most significant bit of each byte
first, inverted; over "123456789" it is 0xD64E and over no bytes 0x0000. Its two bytes are placed most significant first (R2). -/
def Obligations.CrcShiftsBitByBit : Prop :=
  (∀ bytes : List Byte, crc16 bytes =
    ~~~ (bytes.flatMap (fun b => [b.getLsbD 7, b.getLsbD 6, b.getLsbD 5, b.getLsbD 4, b.getLsbD 3, b.getLsbD 2,
      b.getLsbD 1, b.getLsbD 0])).foldl crcBit 0xFFFF#16) ∧
  crc16 [0x31, 0x32, 0x33, 0x34, 0x35, 0x36, 0x37, 0x38, 0x39] = 0xD64E#16 ∧ crc16 [] = 0x0000#16 ∧
  (∀ bytes : List Byte, withCrc bytes = bytes ++ [(crc16 bytes).extractLsb' 8 8, (crc16 bytes).extractLsb' 0 8])

/-- The audio decided. A slot's outcome is classified by its record (R67). A GOOD slot places its bytes, which become the repeat buffer; a GOOD SILENT one places the silence frame when it
is usable; both are NORMAL with n 0, keep the late counts, and permit annex packets unless NO_ANNEX is set (R69, R70). A late frame
counts n up to 65,535, with the rung REPEATING to 3, SILENT to 250 and DORMANT from 251, the reason and the total recorded, and the
audio the rung's, annex packets permitted (R71, R72). The stamp taken is the frame's in every case (R73). A target of an ACTIVE
frame places the alert audio, its own when that is too long, or none when there is none (R75), and the alert audio is the GOOD
alert slot's, the silence frame of a GOOD SILENT one, or the next loop frame (R177). At a cut-off of a RUNNING frame each service's
record becomes the one decided for it, target or not, which a switch alone carries over (R68, R75), and a late one raises LATE
(R71). -/
def Obligations.AudioDecided : Prop :=
  (∀ r : SlotRead,
    (∀ h, r.phase = .good → r.held = some h →
      r.result = if h.silent then .goodSilent h else .good h (r.buffer.take h.len)) ∧
    (r.phase = .overlong → r.result = .late .overlong) ∧
    (r.phase = .header ∨ r.phase = .fetch ∨ r.phase = .confirm → r.result = .late .slow) ∧
    (r.phase = .idle → r.result = .late (match r.outcome with
      | .torn => .torn | .fault => .fault | .absent => .absent | .none => .absent))) ∧
  (∀ (c : Contribution) (silence : Option (List Byte)) (limit : Nat) (frame : U32),
    let quiet := match silence with
      | some b => if b.length ≤ limit then b else []
      | none => []
    let good : Contribution := { c with substitution := .normal, lateRun := 0, taken := frame.setWidth 16 }
    (∀ (h : SlotHeader) (bytes : List Byte), decideAudio c (.good h bytes) silence limit frame =
      { record := { good with repeatBuffer := some bytes }, audio := bytes, permitted := !h.noAnnex, late := false }) ∧
    (∀ h : SlotHeader, decideAudio c (.goodSilent h) silence limit frame =
      { record := good, audio := quiet, permitted := !h.noAnnex, late := false }) ∧
    (∀ reason : LateReason,
      let d := decideAudio c (.late reason) silence limit frame
      let n := if c.lateRun < 65535 then c.lateRun + 1 else 65535
      d.late = true ∧ d.permitted = true ∧
      d.record = { c with
        substitution := if n ≤ 3 then .repeating else if n ≤ 250 then .silent else .dormant
        lateRun := n, lastLate := reason, lateTotal := if c.lateTotal < 4294967295 then c.lateTotal + 1 else 4294967295
        taken := frame.setWidth 16 } ∧
      d.audio = if n ≤ 3 then c.repeatBuffer.getD quiet else if n ≤ 250 then quiet else [])) ∧
  (∀ (own alert : List Byte) (limit : Nat),
    takeoverAudio .absent limit own = [] ∧ (alert.length ≤ limit → takeoverAudio (.present alert) limit own = alert) ∧
    (limit < alert.length → takeoverAudio (.present alert) limit own = own)) ∧
  (∀ s : State,
    let outcome := s.alertSlot.map (fun (a : AlertSlot) => a.slot.result)
    let silence := if s.ss.silence.state = .valid then s.ss.silence.bytes else []
    (∀ h bytes, outcome = some (.good h bytes) → selectAlertAudio s = { s with alertAudio := .present bytes }) ∧
    (∀ h, outcome = some (.goodSilent h) → selectAlertAudio s = { s with alertAudio := .present silence }) ∧
    (outcome = none ∨ (∃ r, outcome = some (.late r)) →
      (s.ss.loop.state ≠ .valid → selectAlertAudio s = { s with alertAudio := .absent }) ∧
      (∀ (frames : List (List Byte)) (f : List Byte), s.ss.loop.state = .valid → s.ss.loop.bytes = loopBytes frames →
        frames.length ≤ 16 → (∀ x ∈ frames, 1 ≤ x.length ∧ x.length ≤ 3838) → s.ss.frameCount = frames.length →
        frames[s.ss.loopIndex]? = some f →
        selectAlertAudio s = { s with
          alertAudio := .present f, ss := { s.ss with loopIndex := (s.ss.loopIndex + 1) % frames.length } }))) ∧
  (∀ (s : State) (v : Service) (e : PlanEntry), s.modes.mode = .running → s.ft.cutOffMade = false →
    (s.services.map (·.sid)).Nodup → (s.entries.map (·.sid)).Nodup → v ∈ s.services → s.entryOf v.sid = some e →
    let d := decideAudio v.contribution ((v.slot.getD .fresh).result)
      (if s.ss.silence.state = .valid then some s.ss.silence.bytes else none) (32 * e.cells - 2) s.ft.nextSerial
    ∃ t w, exec .cutOff s = .next t ∧ w ∈ (worked s).services ∧ w.sid = v.sid ∧ w.contribution = d.record ∧
      (d.late = true → t.caused .late = true) ∧ (s.pm.state ≠ .countdown ∨ 2 ≤ s.pm.countdown → w ∈ t.services))

/-- A field in which annex packets are permitted is filled: its audio length, audio, packets and fill are 32 bytes for each of
its cells (R94), whatever the streams offer. The payload of the RUNNING frame that a cut-off completes holds, in the cells of each
entry, its audio length in two bytes, the audio that CR hands over for its service, the packets of that service's packing in the
order sent, and 0x00 to the end of the field; a field that permits no packets has none (that it too is filled with 0x00 is log entry
18). The cells that no entry owns hold 0x00 (R7, R68, R75, R82). -/
def Obligations.FieldIsFilled : Prop :=
  (∀ (i : PackInput) (e : PlanEntry) (audio : List Byte) (v : Service), audio.length + 2 ≤ 32 * e.cells →
    let k := packField i e audio true v
    2 + audio.length + k.sent.length + k.room = 32 * e.cells ∧ (fieldBytes audio k).length = 32 * e.cells) ∧
  (∀ (s : State) (p : Plan), s.modes.mode = .running → s.ft.cutOffMade = false → s.pm.active = .ready p → PlanSound p →
    ServicesSound s →
    ∃ t f, exec .cutOff s = .next t ∧ t.completed = some f ∧ f.payload.length = 19200 ∧
      (∀ e ∈ p.entries, ∃ v ∈ s.services, v.sid = e.sid ∧
        let audio := (handedOver s e v).1
        let permitted := (handedOver s e v).2
        let packets := (packField (s.packInput e.sid) e audio permitted v).sent
        2 + audio.length + packets.length ≤ 32 * e.cells ∧ (permitted = false → packets = []) ∧
        fieldOf f.payload e = [BitVec.ofNat 8 (audio.length / 256), BitVec.ofNat 8 audio.length] ++ audio ++ packets ++
          List.replicate (32 * e.cells - 2 - audio.length - packets.length) 0) ∧
      (∀ c, c < 600 → (∀ e ∈ p.entries, c < e.start ∨ e.start + e.cells ≤ c) →
        (f.payload.drop (32 * c)).take 32 = List.replicate 32 0))

/-- Durations, ALERTs and CLEARs on a queue as R167 has it (R166, R168, R169, R170). A duration of s seconds, clamped, is
ceil(s × 125 / 6) frames. An ALERT that matches no entry is inserted: the entries are the new one and the old ones, in order. A full
queue gives up the most recently inserted WAITING entry of the lowest WAITING level to a higher level, and counts the entry or the
request it discards. An ALERT that matches an entry updates it and inserts none. A CLEAR removes a WAITING entry, marks an
ANNOUNCING or ACTIVE one, leaves a RELEASING one, and is counted when it matches none. -/
def Obligations.AlertRequestsApplied : Prop :=
  (∀ seconds : Nat, durationFrames seconds =
    (Nat.max 10 (Nat.min 3600 (if seconds = 0 then 3600 else seconds)) * 125 + 5) / 6) ∧
  (∀ (a : AlertController) (r : AlertRequest), QueueSound a → r.isClear = false →
    (∀ e ∈ a.queue, e.key ≠ (r.source, r.alertId)) →
    let entry : AlertEntry :=
      { source := r.source, alertId := r.alertId, level := r.level, mask := r.mask, text := r.text
        remaining := durationFrames r.duration, state := .waiting, announce := 0, endMark := false
        order := a.nextOrder }
    let b := (applyRequest r a).ac
    QueueSound b ∧
    (a.queue.length < 4 → b.queue.Perm (entry :: a.queue) ∧ b.drops = a.drops ∧
      b.level3Inserted = (a.level3Inserted || r.level == 3)) ∧
    (a.queue.length = 4 → ∃ m, (m.state = .waiting ∧ m ∈ a.queue ∧
        ∀ e ∈ a.queue, e.state = .waiting → m.level < e.level ∨ (m.level = e.level ∧ e.order ≤ m.order)) ∧
      (m.level < r.level → b.queue.Perm (entry :: withoutEntry m a.queue) ∧ b.drops = min 65535 (a.drops + 1) ∧
        b.level3Inserted = (a.level3Inserted || r.level == 3)) ∧
      (r.level ≤ m.level → b = { a with drops := min 65535 (a.drops + 1) }))) ∧
  (∀ (a : AlertController) (r : AlertRequest), QueueSound a → r.isClear = false →
    ∀ e ∈ a.queue, e.key = (r.source, r.alertId) →
      let updated : AlertEntry :=
        { e with level := r.level, mask := r.mask, text := r.text, remaining := durationFrames r.duration }
      let b := (applyRequest r a).ac
      QueueSound b ∧ b = { a with queue := b.queue } ∧
      (e.state ≠ .releasing → b.queue.Perm (updated :: withoutEntry e a.queue)) ∧
      (e.state = .releasing → b.queue.Perm
        ({ updated with state := .waiting, announce := 0, endMark := false } :: withoutEntry e a.queue))) ∧
  (∀ (a : AlertController) (r : AlertRequest), QueueSound a → r.isClear = true →
    (∀ e ∈ a.queue, e.key = (r.source, r.alertId) →
      (e.state = .waiting → (applyRequest r a).ac = { a with queue := withoutEntry e a.queue }) ∧
      (e.state = .announcing ∨ e.state = .active → (applyRequest r a).ac =
        { a with queue := withEntry { e with endMark := true } a.queue }) ∧
      (e.state = .releasing → (applyRequest r a).ac = a)) ∧
    ((∀ e ∈ a.queue, e.key ≠ (r.source, r.alertId)) →
      (applyRequest r a).ac = { a with drops := min 65535 (a.drops + 1) }))

/-! ### The ends of transfers: the root, the plan and the status block (R23, R33 to R36, R41 to R48) -/

/-- The completion of the start sequence's root read (R23, R147). A failed read, a wrong signature or a plan address of 0 ends the
sequence in STOPPED with its result, after a plan address of 0 with the closing write-back to the address in the area read (R36; log entry 10);
otherwise CP accepts the values and records the sequences as seen, ALR is enabled at the
rate named, or at 9,600 baud, and the load of the plan into ACTIVE begins with its 16-byte header. That the receiver's sample position
becomes 0 and the bit being sampled the start bit is the model's choice (log entry 26), for R147 gives the two no value. -/
def Obligations.RootReadCompletes : Prop :=
  ∀ (i : Fin 8) (bytes : List Byte) (s : State), Reading .rootRead i 128 s → bytes.length = 128 →
    s.modes.mode = .starting →
    let v := rootValues bytes
    (∃ t, exec (.rootReadDone .error) s = .next t ∧ t.modes.mode = .stopped ∧ StoppedAtRest t ∧
      t.modes.startResult = .rootFault ∧ t.caused .mode = true ∧ t.caused .fault = true ∧
      t.mp.faults = min 4294967295 (s.mp.faults + 1)) ∧
    (bytes.take 4 ≠ [0x55, 0x46, 0x24, 0x60] → ∃ t, exec (.rootReadDone (.data bytes)) s = .next t ∧
      t.modes.mode = .stopped ∧ StoppedAtRest t ∧ t.modes.startResult = .rootSignature ∧ t.caused .mode = true) ∧
    (bytes.take 4 = [0x55, 0x46, 0x24, 0x60] → v.planAddr = 0 → ∃ t, exec (.rootReadDone (.data bytes)) s = .next t ∧
      t.modes.mode = .stopped ∧ StoppedAtRest t ∧ t.modes.startResult = .noPlan ∧ t.caused .mode = true ∧
      t.pm.lastResult = s.pm.lastResult ∧ ClosingRequested v.statusAddr s.sw s.mp.waiting s t) ∧
    (bytes.take 4 = [0x55, 0x46, 0x24, 0x60] → v.planAddr ≠ 0 →
      exec (.rootReadDone (.data bytes)) s = .next (ask .planLoad none v.planAddr 16 { releaseSlot i s with
        cp := { s.cp with
          accepted := some v, seen := some { plan := v.planSeq, cell := v.cellSeq, standby := v.standbySeq } }
        alr := { s.alr with
          state := .hunt, rate := (LineRate.ofCode v.rateCode).getD .baud9600, idleCount := 0, armed := false
          lastSample := false, samplePos := 0, bit := .start }
        pm := { s.pm with
          active := .filling, load := some { toActive := true, addr := v.planAddr, header := none, bytes := [] } }
        modes := { s.modes with stage := .planLoad } }))

/-- The completion of a root poll (R33, R34, R148). A failed poll, or one with a wrong signature, is ignored and counted, and the
values stand. An accepted one replaces every value and the sequences seen; with equal sequences there is no request, and a named
rate other than the one in force takes over in HUNT alone. The sample position starts afresh there (R148); that it becomes 0, the bit
being sampled staying as it stood, is the model's choice (log entry 26). -/
def Obligations.RootPollCompletes : Prop :=
  ∀ (i : Fin 8) (bytes : List Byte) (s : State), Reading .rootPoll i 128 s → bytes.length = 128 →
    let v := rootValues bytes
    let ignored : ControlPoller := { s.cp with poll := .none, ignores := s.cp.ignores + 1 }
    let taken : ControlPoller := { s.cp with
      poll := .none, accepted := some v
      seen := some { plan := v.planSeq, cell := v.cellSeq, standby := v.standbySeq } }
    exec (.rootPollDone .error) s = .next { countEnd .error (releaseSlot i s) with cp := ignored } ∧
    (bytes.take 4 ≠ [0x55, 0x46, 0x24, 0x60] →
      exec (.rootPollDone (.data bytes)) s = .next { releaseSlot i s with cp := ignored }) ∧
    (bytes.take 4 = [0x55, 0x46, 0x24, 0x60] →
      s.cp.seen = some { plan := v.planSeq, cell := v.cellSeq, standby := v.standbySeq } →
      (∀ r, LineRate.ofCode v.rateCode = some r → r ≠ s.alr.rate → s.alr.state = .hunt →
        exec (.rootPollDone (.data bytes)) s = .next { releaseSlot i s with
          cp := taken, alr := { s.alr with rate := r, samplePos := 0 } }) ∧
      ((∀ r, LineRate.ofCode v.rateCode = some r → r = s.alr.rate ∨ s.alr.state ≠ .hunt) →
        exec (.rootPollDone (.data bytes)) s = .next { releaseSlot i s with cp := taken }))

/-- A changed plan sequence in an accepted poll is one request to PM, by its plan state (R34, R45 to R48). In IDLE a READY plan that
waits is superseded, or cancelled by address 0, and a load begins; in LOADING the load is superseded or cancelled; in COUNTDOWN the
request is remembered while the window is open, at 5 or more, and held after it closes, superseding one held; in CANCELLING it
replaces the remembered one, which is superseded. PLAN is raised with each result. The other two sequences stand still here. -/
def Obligations.PlanRequestTaken : Prop :=
  ∀ (i : Fin 8) (bytes : List Byte) (old : SeenSequences) (s : State), Reading .rootPoll i 128 s → bytes.length = 128 →
    let v := rootValues bytes
    let load : PlanLoad := { toActive := false, addr := v.planAddr, header := none, bytes := [] }
    bytes.take 4 = [0x55, 0x46, 0x24, 0x60] → s.cp.seen = some old → v.planSeq ≠ old.plan → v.cellSeq = old.cell →
    v.standbySeq = old.standby →
    ∃ t, exec (.rootPollDone (.data bytes)) s = .next t ∧ t.cp.accepted = some v ∧
      t.cp.seen = some { plan := v.planSeq, cell := v.cellSeq, standby := v.standbySeq } ∧
      t.modes = s.modes ∧ t.regs = s.regs ∧ t.services = s.services ∧ t.ac = s.ac ∧ t.ss = s.ss ∧ t.ft = s.ft ∧
      (s.pm.state = .idle → s.pm.staged = .empty → v.planAddr = 0 → t.pm = s.pm) ∧
      (s.pm.state = .idle → s.pm.staged = .empty → v.planAddr ≠ 0 →
        t.pm = { s.pm with staged := .filling, state := .loading, load := some load } ∧
        Requested .planLoad none v.planAddr 16 t) ∧
      (s.pm.state = .idle → ∀ waiting, s.pm.staged = .ready waiting → t.caused .plan = true ∧
        (v.planAddr = 0 → t.pm = { s.pm with staged := .empty, lastResult := .cancelled }) ∧
        (v.planAddr ≠ 0 → t.pm = { s.pm with
            staged := .filling, state := .loading, load := some load, lastResult := .superseded
            supersedes := s.pm.supersedes + 1 } ∧
          Requested .planLoad none v.planAddr 16 t)) ∧
      (s.pm.state = .loading → t.caused .plan = true ∧
        (∀ f, some f ∈ t.mp.slots.toList → f.request.purpose = .planLoad → f.withdrawn = true) ∧
        (v.planAddr = 0 → (∀ r ∈ t.mp.waiting, r.purpose ≠ .planLoad) ∧
          t.pm = { s.pm with staged := .empty, state := .idle, load := none, lastResult := .cancelled }) ∧
        (v.planAddr ≠ 0 →
          (∀ r ∈ t.mp.waiting, r.purpose = .planLoad → r.data = none ∧ r.addr = v.planAddr ∧ r.len = 16) ∧
          t.pm = { s.pm with
            staged := .filling, load := some load, lastResult := .superseded, supersedes := s.pm.supersedes + 1 } ∧
          Requested .planLoad none v.planAddr 16 t)) ∧
      (s.pm.state = .countdown → 5 ≤ s.pm.countdown →
        t.pm = { s.pm with state := .cancelling, remembered := some v.planAddr }) ∧
      (s.pm.state = .countdown → s.pm.countdown ≤ 4 → s.pm.held = none →
        t.pm = { s.pm with held := some v.planAddr }) ∧
      (s.pm.state = .countdown → s.pm.countdown ≤ 4 → s.pm.held ≠ none → t.caused .plan = true ∧
        t.pm = { s.pm with
          held := some v.planAddr, lastResult := .superseded, supersedes := s.pm.supersedes + 1 }) ∧
      (s.pm.state = .cancelling → t.caused .plan = true ∧
        t.pm = { s.pm with
          remembered := some v.planAddr, lastResult := .superseded, supersedes := s.pm.supersedes + 1 })

/-- A changed alert cell, and a changed standby request, in an accepted poll. The cell (R163): a request held is replaced and counted,
its text read withdrawn; a type or a level that is none is counted and discarded; a CLEAR, and an ALERT with text address 0 or text
length 0, is COMPLETE at once; another ALERT is FETCHING, with up to 128 bytes requested (behind those waiting, log entry 6). The standby request (R180 to R182): an
unknown region and too long a length are rejected; behind a load or a request it waits, superseding one that waits; a LOOP or PICTURE
request waits while an entry announces or is ACTIVE; otherwise its load begins, a length of 0 ending at once. One that waits begins
when a load ends, and at a cut-off whose fixing leaves it not blocked. That the region of a load that begins keeps its old length and
holds no bytes until they come is the model's (log entry 25, DEDUCED). -/
def Obligations.CellAndStandbyRequestsTaken : Prop :=
  (∀ (i : Fin 8) (bytes : List Byte) (old : SeenSequences) (s : State), Reading .rootPoll i 128 s → bytes.length = 128 →
    let v := rootValues bytes
    let drops := if s.ac.cell = none then s.ac.drops else min 65535 (s.ac.drops + 1)
    let left := s.mp.waiting.filter (fun r => decide (r.purpose ≠ .alertText))
    let cell (complete : Bool) (text : List Byte) : CellRequest :=
      { complete := complete, isClear := decide (v.cellType = 2), alertId := v.cellId, level := v.cellLevel
        mask := v.cellMask, duration := v.cellDuration, text := text }
    let holds (c : CellRequest) : AlertController := { s.ac with cell := some c, drops := drops }
    let default := if s.ss.text.state = .valid then s.ss.text.bytes.take 128 else []
    let alert : Prop := v.cellType = 1 ∧ 1 ≤ v.cellLevel.toNat ∧ v.cellLevel.toNat ≤ 3
    bytes.take 4 = [0x55, 0x46, 0x24, 0x60] → s.cp.seen = some old → v.planSeq = old.plan → v.cellSeq ≠ old.cell →
    v.standbySeq = old.standby →
    ∃ t, exec (.rootPollDone (.data bytes)) s = .next t ∧
      t.modes = s.modes ∧ t.pm = s.pm ∧ t.ss = s.ss ∧ t.services = s.services ∧ t.ft = s.ft ∧ t.tp = s.tp ∧
      (∀ f, some f ∈ t.mp.slots.toList → f.request.purpose = .alertText → f.withdrawn = true) ∧
      (v.cellType ≠ 2 → ¬ alert →
        t.ac = { s.ac with cell := none, drops := min 65535 (drops + 1) } ∧ t.mp.waiting = left) ∧
      (v.cellType = 2 → t.ac = holds (cell true []) ∧ t.mp.waiting = left) ∧
      (alert → v.cellTextAddr = 0 → t.ac = holds (cell true default) ∧ t.mp.waiting = left) ∧
      (alert → v.cellTextAddr ≠ 0 → v.cellTextLen = 0 → t.ac = holds (cell true []) ∧ t.mp.waiting = left) ∧
      (alert → v.cellTextAddr ≠ 0 → v.cellTextLen ≠ 0 → t.ac = holds (cell false []) ∧
        t.mp.waiting = left ++ [{ purpose := .alertText, cls := .urgent, data := none, addr := v.cellTextAddr
                                  len := min 128 v.cellTextLen, entry := s.now }])) ∧
  (∀ (i : Fin 8) (bytes : List Byte) (old : SeenSequences) (s : State), Reading .rootPoll i 128 s → bytes.length = 128 →
    let v := rootValues bytes
    let result (x : StandbyStore) (r : LoadResult) : StandbyStore := { x with lastResult := r }
    bytes.take 4 = [0x55, 0x46, 0x24, 0x60] → s.cp.seen = some old → v.planSeq = old.plan → v.cellSeq = old.cell →
    v.standbySeq ≠ old.standby →
    ∃ t, exec (.rootPollDone (.data bytes)) s = .next t ∧
      t.modes = s.modes ∧ t.pm = s.pm ∧ t.ac = s.ac ∧ t.services = s.services ∧ t.ft = s.ft ∧ t.tp = s.tp ∧
      (v.standbyRegion = 0 ∨ 4 < v.standbyRegion.toNat → t.ss = result s.ss .badRegion ∧ t.caused .standby = true) ∧
      ∀ region size, (v.standbyRegion, region, size) = (1, .silence, 4096) ∨ (v.standbyRegion, region, size) = (2, .loop, 40960) ∨
          (v.standbyRegion, region, size) = (3, .picture, 16384) ∨ (v.standbyRegion, region, size) = (4, .text, 256) →
        let q : StandbyRequest :=
          { region := region, addr := v.standbyAddr, len := v.standbyLen, sequence := v.standbySeq }
        let blocked := (region = .loop ∨ region = .picture) ∧ ∃ e ∈ s.ac.queue, e.state = .announcing ∨ e.state = .active
        (size < q.len → t.ss = result s.ss .tooLong ∧ t.caused .standby = true) ∧
        (q.len ≤ size → s.ss.pending ≠ none → t.caused .standby = true ∧
          t.ss = { s.ss with pending := some q, lastResult := .superseded, supersedes := s.ss.supersedes + 1 }) ∧
        (q.len ≤ size → s.ss.pending = none → s.ss.load ≠ none ∨ blocked → t.ss = { s.ss with pending := some q }) ∧
        (q.len ≤ size → s.ss.pending = none → s.ss.load = none → ¬ blocked → 1 ≤ q.len →
          t.ss.load = some { request := q, copied := 0 } ∧ t.ss.pending = none ∧ t.ss.lastResult = s.ss.lastResult ∧
          t.ss.region region = { s.ss.region region with state := .loading, revision := 0, bytes := [] } ∧
          (∀ j, j ≠ region → t.ss.region j = s.ss.region j) ∧
          t.ss.loopIndex = (if region = .loop then 0 else s.ss.loopIndex) ∧
          Requested .standby none q.addr (min 256 q.len) t) ∧
        (q.len ≤ size → s.ss.pending = none → s.ss.load = none → ¬ blocked → q.len = 0 →
          t.ss.load = none ∧ t.ss.pending = none ∧ t.caused .standby = true ∧ (∀ j, j ≠ region → t.ss.region j = s.ss.region j) ∧
          (region = .loop → t.ss.lastResult = .format ∧ (t.ss.region region).state = .invalid ∧ t.ss.loopIndex = 0) ∧
          (region ≠ .loop → t.ss.lastResult = .loaded ∧
            t.ss.region region = { state := .valid, revision := q.sequence, len := 0, bytes := [] }))) ∧
  (∀ (i : Fin 8) (l : StandbyLoad) (q : StandbyRequest) (s : State), (∃ n, Reading .standby i n s) → s.ss.load = some l →
    s.ss.pending = some q → 1 ≤ q.len →
    let blocked := (q.region = .loop ∨ q.region = .picture) ∧ ∃ e ∈ s.ac.queue, e.state = .announcing ∨ e.state = .active
    ∃ t, exec (.standbyTransferDone .error) s = .next t ∧ t.ac = s.ac ∧ t.ss.lastResult = .fault ∧ t.caused .standby = true ∧
      (blocked → t.ss.load = none ∧ t.ss.pending = some q) ∧
      (¬ blocked → t.ss.load = some { request := q, copied := 0 } ∧ t.ss.pending = none ∧
        (t.ss.region q.region).state = .loading ∧ Requested .standby none q.addr (min 256 q.len) t)) ∧
  (∀ (q : StandbyRequest) (s : State), s.inAssembly = true → s.ft.cutOffMade = false → s.ss.load = none →
    s.ss.pending = some q → 1 ≤ q.len →
    ∃ t, exec .cutOff s = .next t ∧
      let blocked := (q.region = .loop ∨ q.region = .picture) ∧ ∃ e ∈ t.ac.queue, e.state = .announcing ∨ e.state = .active
      (blocked → t.ss.load = none ∧ t.ss.pending = some q ∧ t.ss.region q.region = s.ss.region q.region) ∧
      (¬ blocked → t.ss.load = some { request := q, copied := 0 } ∧ t.ss.pending = none ∧
        (t.ss.region q.region).state = .loading ∧ Requested .standby none q.addr (min 256 q.len) t))

/-- The completion of a transfer of a load (R41, R42, R44). The header is followed by the first burst of entries and each burst by the
next; the last burst, or the header of a plan of no entries, is validated. Into STAGED: a plan that passes is READY with ACCEPTED,
and one that fails, or a failed transfer, with FAULT, leaves STAGED empty with the reason. Into ACTIVE, in the start sequence (R23): a
plan that passes makes the start result OK with a service in its reset state for each entry (R58, R79, R100, R119), and a failure ends the start with PLAN_INVALID in STOPPED
and the closing write-back (R36; log entry 10). PLAN is raised with each result. -/
def Obligations.PlanLoadCompletes : Prop :=
  ∀ (i : Fin 8) (bytes : List Byte) (l : PlanLoad) (s : State), Reading .planLoad i bytes.length s → s.pm.load = some l →
    let staged (o : TransferOutcome) (outcome : Except PlanResult Plan) : Prop :=
      ∃ t, exec (.planLoadTransferDone o) s = .next t ∧ t.caused .plan = true ∧ KeptByPlans s t ∧
        match outcome with
        | .ok p => t.pm = { s.pm with staged := .ready p, state := .idle, load := none, lastResult := .accepted }
        | .error r => t.pm = { s.pm with staged := .empty, state := .idle, load := none, lastResult := r }
    let active (o : TransferOutcome) (outcome : Except PlanResult Plan) : Prop :=
      ∃ t, exec (.planLoadTransferDone o) s = .next t ∧ t.caused .plan = true ∧
        match outcome with
        | .ok p =>
          t.pm = { s.pm with
            active := .ready p, staged := .empty, state := .idle, countdown := 0, nextNumber := p.number, cancelled := false
            load := none, lastResult := .accepted } ∧
          t.modes = { s.modes with startResult := .ok, stage := .endedOk } ∧
          t.services = p.entries.map (fun e => serviceAtReset e 0xFFFFFFFF#32) ∧
          t.ft = s.ft ∧ t.cp = s.cp ∧ t.ac = s.ac ∧ t.alr = s.alr ∧ t.regs = s.regs
        | .error r =>
          t.modes.mode = .stopped ∧ StoppedAtRest t ∧ t.modes.startResult = .planInvalid ∧ t.caused .mode = true ∧
          t.pm.lastResult = r ∧ t.regs = s.regs ∧ ClosingRequested s.statusAddr s.sw s.mp.waiting s t
    let ends (o : TransferOutcome) (outcome : Except PlanResult Plan) : Prop :=
      (l.toActive = false → staged o outcome) ∧ (l.toActive = true → active o outcome)
    ends .error (.error .fault) ∧
    (l.header = none → l.bytes = [] → bytes.length = 16 →
      let h := planHeaderOf bytes
      (1 ≤ h.count → exec (.planLoadTransferDone (.data bytes)) s =
        .next (ask .planLoad none (addrPlus l.addr 16) (min 256 (64 * h.toRead)) { releaseSlot i s with
          pm := { s.pm with load := some { l with header := some h } } })) ∧
      (h.count = 0 → ends (.data bytes) (.error (if h.check = 0 then .count else .check)))) ∧
    (∀ h, l.header = some h →
      let read := l.bytes ++ bytes
      (read.length < 64 * h.toRead → exec (.planLoadTransferDone (.data bytes)) s =
        .next (ask .planLoad none (addrPlus l.addr (16 + read.length)) (min 256 (64 * h.toRead - read.length))
          { releaseSlot i s with pm := { s.pm with load := some { l with header := some h, bytes := read } } })) ∧
      (read.length = 64 * h.toRead →
        (planFailure h read = none → ends (.data bytes) (.ok (planOf h l.addr read))) ∧
        (∀ r, planFailure h read = some r → ends (.data bytes) (.error r))))

/-- The completion of a transfer of a write-back (R36, R198): each part of the block is followed by the next, to the trailing copy
of the sequence; after that the write-back is complete with FRAME raised; a failure ends it where it stands, with no FRAME of its
own. No snapshot is held here. -/
def Obligations.StatusWritebackCompletes : Prop :=
  ∀ (i : Fin 8) (snap : Snapshot) (s : State), Writing .status i s → s.sw.current = some snap → s.sw.held = none →
    snap.body.length = 892 →
    (s.sw.part < 5 → exec (.statusTransferDone (.data [])) s = .next
      (let next := s.sw.part + 1
       let offset := if next = 5 then 896 else 4 + 256 * (next - 1)
       let data := if next = 5 then be32 s.sw.sequence else (snap.body.drop (256 * (next - 1))).take 256
       ask .status (some data) (addrPlus snap.addr offset) data.length
        { releaseSlot i s with sw := { s.sw with part := next } })) ∧
    (s.sw.part = 5 → exec (.statusTransferDone (.data [])) s = .next { releaseSlot i s with
      sw := { s.sw with
        state := .idle, current := none, part := 0, held := none, cause := s.sw.cause ||| Cause.frame.word } }) ∧
    (exec (.statusTransferDone .error) s = .next { countEnd .error (releaseSlot i s) with
      sw := { s.sw with
        state := .idle, current := none, part := 0, held := none, cause := s.sw.cause ||| Cause.fault.word } })

/-! ### The ends of transfers: slots (R62 to R65) -/

/-- The completion of a header read of a slot, by the five cases of R62; a fetch begins with a burst of up to 256 bytes (R63). -/
def Obligations.SlotHeaderJudged : Prop :=
  ∀ (key : SlotKey) (i : Fin 8) (bytes : List Byte) (r : SlotRead) (p : SlotPlace) (s : State),
    Reading (.slotHeader key) i 5 s → bytes.length = 5 → s.slotRead key = some r → s.slotPlace key = some p →
    let h := slotHeaderOf bytes
    let frame : U16 := s.ft.nextSerial.setWidth 16
    let held : SlotRead := { r with held := some h, buffer := [] }
    (h.stamp ≠ frame → exec (.slotHeaderReadDone key (.data bytes)) s =
      .next (setSlotRead key { r with phase := .idle, outcome := .absent } (releaseSlot i s))) ∧
    (h.stamp = frame → h.silent = true ∨ h.len = 0 → exec (.slotHeaderReadDone key (.data bytes)) s =
      .next (ask (.slotConfirm key) none p.addr 5 (setSlotRead key { held with phase := .confirm } (releaseSlot i s)))) ∧
    (h.stamp = frame → h.silent = false → p.limit < h.len → exec (.slotHeaderReadDone key (.data bytes)) s =
      .next (setSlotRead key { r with phase := .overlong } (releaseSlot i s))) ∧
    (h.stamp = frame → h.silent = false → 1 ≤ h.len → h.len ≤ p.limit →
      exec (.slotHeaderReadDone key (.data bytes)) s =
        .next (ask (.slotPayload key) none (addrPlus p.addr 32) (min 256 h.len)
          (setSlotRead key { held with phase := .fetch } (releaseSlot i s))))

/-- The completion of a payload burst appends its bytes, and the next burst, or the confirm read after the last, is requested
(R63); a confirm read that finds the header held makes the slot GOOD, and one that finds another drops the header and the bytes
with TORN (R64). -/
def Obligations.SlotFetchedAndConfirmed : Prop :=
  ∀ (key : SlotKey) (i : Fin 8) (bytes : List Byte) (r : SlotRead) (p : SlotPlace) (h : SlotHeader) (s : State),
    s.slotRead key = some r → s.slotPlace key = some p → r.held = some h →
    (Reading (.slotPayload key) i bytes.length s → r.buffer.length + bytes.length < h.len →
      exec (.payloadBurstDone key (.data bytes)) s =
        .next (ask (.slotPayload key) none (addrPlus p.addr (32 + (r.buffer.length + bytes.length)))
          (min 256 (h.len - (r.buffer.length + bytes.length)))
          (setSlotRead key { r with buffer := r.buffer ++ bytes, phase := .fetch } (releaseSlot i s)))) ∧
    (Reading (.slotPayload key) i bytes.length s → h.len ≤ r.buffer.length + bytes.length →
      exec (.payloadBurstDone key (.data bytes)) s =
        .next (ask (.slotConfirm key) none p.addr 5
          (setSlotRead key { r with buffer := r.buffer ++ bytes, phase := .confirm } (releaseSlot i s)))) ∧
    (Reading (.slotConfirm key) i 5 s → bytes.length = 5 → slotHeaderOf bytes = h →
      exec (.confirmReadDone key (.data bytes)) s =
        .next (setSlotRead key { r with phase := .good } (releaseSlot i s))) ∧
    (Reading (.slotConfirm key) i 5 s → bytes.length = 5 → slotHeaderOf bytes ≠ h →
      exec (.confirmReadDone key (.data bytes)) s =
        .next (setSlotRead key { phase := .idle, outcome := .torn, held := none, buffer := [] } (releaseSlot i s)))

/-- A transfer of a read sequence that ends with a bus error or a timeout (R65, R190, R191): the failure is counted with FAULT
raised, the record is IDLE with outcome FAULT and nothing held, and nothing more is requested. A timeout is 4 ms after its
grant (R190); that the model's clock moves to that moment is log entry 2. -/
def Obligations.SlotReadFails : Prop :=
  ∀ (key : SlotKey) (i : Fin 8) (f : InFlight) (r : SlotRead) (p : SlotPlace) (s : State) (purpose : Purpose)
    (done : TransferOutcome → Instr),
    (purpose, done) = (.slotHeader key, .slotHeaderReadDone key) ∨
      (purpose, done) = (.slotPayload key, .payloadBurstDone key) ∨
      (purpose, done) = (.slotConfirm key, .confirmReadDone key) →
    s.mp.slotOf purpose = some i → s.mp.slots[i] = some f → s.mp.completing = false →
    s.slotRead key = some r → s.slotPlace key = some p →
    let failed : SlotRead := { phase := .idle, outcome := .fault, held := none, buffer := [] }
    exec (done .error) s = .next (setSlotRead key failed { s with
      mp := { s.mp with slots := s.mp.slots.set i none, faults := min 4294967295 (s.mp.faults + 1) }
      sw := { s.sw with cause := s.sw.cause ||| Cause.fault.word } }) ∧
    exec (done .timeout) s = .next (setSlotRead key failed { s with
      now := max s.now (f.grantTime + 4000)
      mp := { s.mp with slots := s.mp.slots.set i none, timeouts := min 4294967295 (s.mp.timeouts + 1) }
      sw := { s.sw with cause := s.sw.cause ||| Cause.fault.word } })

/-! ### The ends of transfers: labels and pictures (R102, R103, R118, R121 to R126) -/

/-- The completion of a label poll requests a fetch of the 210 bytes when the revision differs from the reference, or nothing is
held, and otherwise returns to IDLE (R102); a fetch whose two revisions are equal becomes the received copy, normalised, and a
torn one is discarded (R103). Failures return to IDLE with the label as it was. -/
def Obligations.LabelRecordRead : Prop :=
  ∀ (i : Fin 8) (bytes : List Byte) (v : Service) (e : PlanEntry) (s : State), s.serviceOf v.sid = some v →
    s.entryOf v.sid = some e →
    let label (f : LabelState → LabelState) (t : State) : State :=
      updateService v.sid (fun x => { x with label := f x.label }) t
    let idle := label (fun l => { l with read := .idle })
    let reference := (v.label.received.map (·.revision)).getD v.label.revision
    let wanted := v.label.buffer = none ∧ v.label.received = none ∨ u16At bytes 0 ≠ reference
    (Reading (.labelPoll v.sid) i 16 s → bytes.length = 16 →
      (wanted → exec (.labelPollDone v.sid (.data bytes)) s = .next
        (ask (.labelFetch v.sid) none e.labelAddr 210 (label (fun l => { l with read := .fetching }) (releaseSlot i s)))) ∧
      (¬ wanted → exec (.labelPollDone v.sid (.data bytes)) s = .next (idle (releaseSlot i s))) ∧
      exec (.labelPollDone v.sid .error) s = .next (idle (countEnd .error (releaseSlot i s)))) ∧
    (Reading (.labelFetch v.sid) i 210 s → bytes.length = 210 →
      (u16At bytes 0 = u16At bytes 208 → exec (.labelFetchDone v.sid (.data bytes)) s = .next
        (label (fun l => { l with
          read := .idle, received := some { params := labelOfRecord bytes, revision := u16At bytes 0 } })
          (releaseSlot i s))) ∧
      (u16At bytes 0 ≠ u16At bytes 208 →
        exec (.labelFetchDone v.sid (.data bytes)) s = .next (idle (releaseSlot i s))) ∧
      exec (.labelFetchDone v.sid .error) s = .next (idle (countEnd .error (releaseSlot i s))))

/-- The completion of a selection's reads (R118, R121 to R123). The header's count is taken as at most 8; a changed revision, or a
list that has shrunk, starts the walk again; an empty list gives a dwell of 16. An eligible entry begins a pass, whose first
refill is requested at once; another is skipped, and a walk that has skipped them all gives a dwell of 16. -/
def Obligations.PictureSelection : Prop :=
  ∀ (i : Fin 8) (bytes : List Byte) (v : Service) (s : State), s.serviceOf v.sid = some v →
    let p := v.picture
    let picture (q : PictureState) (t : State) : State := updateService v.sid (fun x => { x with picture := q }) t
    (Reading (.listHeader v.sid) i 16 s → bytes.length = 16 →
      let count := min 8 (byteAt bytes 2).toNat
      let next := if p.listSeen = some (u16At bytes 0) ∧ p.nextIndex < count then p.nextIndex else 0
      let read : PictureState :=
        { p with listSeen := some (u16At bytes 0), count := count, nextIndex := next, skips := 0 }
      (count = 0 → exec (.pictureHeaderReadDone v.sid (.data bytes)) s = .next (picture
        { read with selection := .idle, carousel := .dwelling, dwellTimer := 16 } (releaseSlot i s))) ∧
      (1 ≤ count → exec (.pictureHeaderReadDone v.sid (.data bytes)) s = .next
        (ask (.listEntry v.sid) none (addrPlus (s.listAddr v.sid) (16 + 32 * next)) 32
          (picture { read with selection := .entry } (releaseSlot i s))))) ∧
    (Reading (.listEntry v.sid) i 32 s → bytes.length = 32 →
      let entry := listEntryOf bytes
      let skipped : PictureState := { p with skips := p.skips + 1, nextIndex := (p.nextIndex + 1) % p.count }
      (entry.eligible = true → exec (.pictureEntryReadDone v.sid (.data bytes)) s = .next
        (ask (.refillRecord v.sid) none (addrPlus (s.listAddr v.sid) (16 + 32 * p.nextIndex)) 32
          (picture { p with
            selection := .idle, entry := p.nextIndex, object := entry.object, passRevision := entry.revision
            passCount := 0, carousel := .sending, staging := [], refill := .record
            pass := { toggle := !p.pass.toggle, offset := 0, segment := 0, crc := 0xFFFF#16 } }
            (releaseSlot i s)))) ∧
      (entry.eligible = false → p.count ≤ p.skips + 1 →
        exec (.pictureEntryReadDone v.sid (.data bytes)) s = .next (picture
          { skipped with selection := .idle, carousel := .dwelling, dwellTimer := 16 } (releaseSlot i s))) ∧
      (entry.eligible = false → p.skips + 1 < p.count →
        exec (.pictureEntryReadDone v.sid (.data bytes)) s = .next
          (ask (.listEntry v.sid) none (addrPlus (s.listAddr v.sid) (16 + 32 * ((p.nextIndex + 1) % p.count))) 32
            (picture { skipped with selection := .entry } (releaseSlot i s)))))

/-- The completion of a refill's reads (R124 to R126). An entry revision that differs abandons the pass: an abort is pending, the
carousel is IDLE and the walk goes on after the entry; an equal one requests the n bytes that fit, or ends the refill when n is 0.
The data is appended to the staging buffer, and a failure leaves it as it was. -/
def Obligations.RefillReads : Prop :=
  ∀ (i : Fin 8) (bytes : List Byte) (v : Service) (s : State), v ∈ s.services → (s.services.map (·.sid)).Nodup →
    let p := v.picture
    let picture (q : PictureState) (t : State) : State := updateService v.sid (fun x => { x with picture := q }) t
    let stagingEnd := p.pass.offset + p.staging.length
    let n := min (240 - p.staging.length) (p.object.len - stagingEnd)
    (Reading (.refillRecord v.sid) i 32 s → bytes.length = 32 →
      (u16At bytes 16 ≠ p.passRevision → exec (.refillRecordDone v.sid (.data bytes)) s = .next (picture
        { p with
          abort := some (p.abort.getD
            { entry := p.entry, toggle := p.pass.toggle, segments := BitVec.ofNat 8 p.pass.segment })
          staging := [], pass := { p.pass with offset := 0, segment := 0, crc := 0xFFFF#16 }, refill := .idle
          passCount := 0, nextIndex := if p.entry = 7 then 0 else p.entry + 1, carousel := .idle }
        (releaseSlot i s))) ∧
      (u16At bytes 16 = p.passRevision → n = 0 →
        exec (.refillRecordDone v.sid (.data bytes)) s = .next (picture { p with refill := .idle } (releaseSlot i s))) ∧
      (u16At bytes 16 = p.passRevision → 1 ≤ n → exec (.refillRecordDone v.sid (.data bytes)) s = .next
        (ask (.refillData v.sid) none (addrPlus p.object.addr stagingEnd) n
          (picture { p with refill := .data } (releaseSlot i s))))) ∧
    (Reading (.refillData v.sid) i bytes.length s →
      exec (.refillDataDone v.sid (.data bytes)) s = .next (picture
        { p with refill := .idle, staging := p.staging ++ bytes } (releaseSlot i s)) ∧
      exec (.refillDataDone v.sid .error) s = .next (picture { p with refill := .idle }
        (countEnd .error (releaseSlot i s))))

/-! ### The ends of transfers: the alert text and standby loads (R164, R181) -/

/-- The completion of an alert cell's text read makes the request COMPLETE, with the bytes read, or after a bus error or a timeout,
counted with FAULT raised, with the default text: the first 128 bytes at most of a VALID TEXT region, and none otherwise (R164). A
timeout is 4 ms after its grant (R190); that the model's clock moves to that moment is log entry 2. -/
def Obligations.AlertTextRead : Prop :=
  ∀ (i : Fin 8) (bytes : List Byte) (c : CellRequest) (s : State), Reading .alertText i bytes.length s →
    s.ac.cell = some c →
    let fallback := if s.ss.text.state = .valid then s.ss.text.bytes.take 128 else []
    exec (.alertTextReadDone (.data bytes)) s = .next { releaseSlot i s with
      ac := { s.ac with cell := some { c with complete := true, text := bytes } } } ∧
    exec (.alertTextReadDone .error) s = .next { s with
      mp := { s.mp with slots := s.mp.slots.set i none, faults := min 4294967295 (s.mp.faults + 1) }
      sw := { s.sw with cause := s.sw.cause ||| Cause.fault.word }
      ac := { s.ac with cell := some { c with complete := true, text := fallback } } } ∧
    ∀ f, s.mp.slots[i] = some f → exec (.alertTextReadDone .timeout) s = .next { s with
      now := max s.now (f.grantTime + 4000)
      mp := { s.mp with slots := s.mp.slots.set i none, timeouts := min 4294967295 (s.mp.timeouts + 1) }
      sw := { s.sw with cause := s.sw.cause ||| Cause.fault.word }
      ac := { s.ac with cell := some { c with complete := true, text := fallback } } }

/-- The completion of a transfer of a standby load, with no request pending (R181): the bytes are placed and the next 256 at most
are requested; the last makes the region VALID with the request's sequence and length and LOADED when its content passes: PICTURE
and TEXT always, SILENCE up to 3,838 bytes, LOOP when its bytes are 1 to 16 frames of 1 to 3,838 bytes, whose number becomes the
frame count. Otherwise the region is INVALID with revision 0 and FORMAT; a failed transfer makes any region so, with FAULT.
STANDBY is raised with each result. -/
def Obligations.StandbyLoadTransfers : Prop :=
  ∀ (i : Fin 8) (bytes : List Byte) (l : StandbyLoad) (s : State), Reading .standby i bytes.length s →
    s.ss.load = some l → s.ss.pending = none →
    let region := s.ss.region l.request.region
    let copied := l.copied + bytes.length
    (copied < l.request.len → exec (.standbyTransferDone (.data bytes)) s = .next
      (ask .standby none (addrPlus l.request.addr copied) (min 256 (l.request.len - copied))
        { releaseSlot i s with ss := { s.ss.setRegion l.request.region { region with bytes := region.bytes ++ bytes } with
          load := some { l with copied := copied } } })) ∧
    (l.request.len ≤ copied → ∃ t, exec (.standbyTransferDone (.data bytes)) s = .next t ∧ t.caused .standby = true ∧
      KeptByStandby s t ∧ t.ss.load = none ∧ t.ss.loopIndex = s.ss.loopIndex ∧
      (∀ j, j ≠ l.request.region → t.ss.region j = s.ss.region j) ∧
      let read := region.bytes ++ bytes
      let frames (fs : List (List Byte)) : Prop := fs ≠ [] ∧ fs.length ≤ 16 ∧ (∀ f ∈ fs, 1 ≤ f.length ∧ f.length ≤ 3838) ∧
        read = loopBytes fs
      let loaded (count : Nat) : Prop := t.ss.lastResult = .loaded ∧ t.ss.frameCount = count ∧
        t.ss.region l.request.region =
          { state := .valid, revision := l.request.sequence, len := l.request.len, bytes := read }
      let rejected : Prop := t.ss.lastResult = .format ∧ t.ss.frameCount = s.ss.frameCount ∧
        (t.ss.region l.request.region).state = .invalid ∧ (t.ss.region l.request.region).revision = 0
      (l.request.region = .picture ∨ l.request.region = .text → loaded s.ss.frameCount) ∧
      (l.request.region = .silence → l.request.len ≤ 3838 → loaded s.ss.frameCount) ∧
      (l.request.region = .silence → 3838 < l.request.len → rejected) ∧
      (l.request.region = .loop → ∀ fs, frames fs → loaded fs.length) ∧
      (l.request.region = .loop → (¬ ∃ fs, frames fs) → rejected)) ∧
    (∃ t, exec (.standbyTransferDone .error) s = .next t ∧ t.caused .standby = true ∧ KeptByStandby s t ∧ t.ss.load = none ∧
      t.ss.lastResult = .fault ∧ (t.ss.region l.request.region).state = .invalid ∧
      (t.ss.region l.request.region).revision = 0 ∧ ∀ j, j ≠ l.request.region → t.ss.region j = s.ss.region j)

/-! ### The warning line (R147, R149 to R154) -/

/-- The bits of the line. A falling edge is taken in HUNT after a sample at level 1 and begins a start bit; with no such sample before
it there is none (R149, R151), and in another line state it does nothing (log entry 4). Two zeros of three accept the start bit,
with NOISE when the third is a one; otherwise the edge was a false start (R149). While the idle marker is armed, as after each byte,
the samples of HUNT before an edge with the edge's own, and samples 1 to 9 of a false start, count towards the idle count, and at 320
the marker completes first (R152; which samples count is log entry 17). A byte completes at its stop bit (R150, R151, R153): its bits are the majorities of their three samples, NOISE is
set when some three disagree, PARITY when the ones are odd; a stop bit of 1 gives an entry, a stop bit of 0 a FRAMING entry, or a
BREAK of value 0 and BREAK_WAIT when data and parity are all 0. The idle count is 0 and the marker armed. A full FIFO loses the
entry, counted, with LINK raised (R154). BREAK_WAIT ends in HUNT after a bit time of high line (R151). A start bit, a byte or an end
of BREAK_WAIT in another line state does nothing (log entry 4). -/
def Obligations.LineBitsJudged : Prop :=
  (∀ (s : State) (hunted : Nat) (b : BitSamples),
      let counted := samplesCounted (hunted + 1) s
      let falseStart := samplesCounted 9 s
      let ones := b.s7.toNat + b.s8.toNat + b.s9.toNat
      (s.alr.state = .hunt → 0 < hunted ∨ s.alr.lastSample = true → exec (.lineFallingEdge hunted) s =
        .next { counted with alr := { counted.alr with state := .start, samplePos := 0, bit := .start, lastSample := false } }) ∧
      (s.alr.state ≠ .hunt ∨ hunted = 0 ∧ s.alr.lastSample = false → exec (.lineFallingEdge hunted) s = .next s) ∧
      (s.alr.state = .start → ones ≤ 1 → exec (.startBitSample b) s =
        .next { s with alr := { s.alr with
          state := .receiving, idleCount := 0, samplePos := 9, bit := .data 0, lastSample := b.s9
          byte := { value := 0, parityBit := false, noise := decide (ones = 1), parity := false } } }) ∧
      (s.alr.state = .start → 2 ≤ ones → exec (.startBitSample b) s =
        .next { falseStart with alr := { falseStart.alr with
          state := .hunt, samplePos := 9, bit := .start, lastSample := b.s9 } }) ∧
      (s.alr.state ≠ .start → exec (.startBitSample b) s = .next s)) ∧
  (∀ (s : State) (b : ByteSamples),
      let ones (x : BitSamples) : Nat := x.s7.toNat + x.s8.toNat + x.s9.toNat
      let bit (x : BitSamples) : Bool := decide (2 ≤ ones x)
      let unclear (x : BitSamples) : Bool := decide (ones x = 1 ∨ ones x = 2)
      let noise := s.alr.byte.noise || b.data.toList.any unclear || unclear b.parity || unclear b.stop
      let odd : Bool := ((b.data.toList.map (fun x => (bit x).toNat)).sum + (bit b.parity).toNat) % 2 == 1
      (s.alr.state = .receiving → s.alr.fifo.length < 32 →
        ∃ t e value, exec (.lineByteComplete b) s = .next t ∧ (∀ k : Fin 8, value.getLsbD k.val = bit b.data[k]) ∧
          t = { s with alr := { t.alr with overrun := false } } ∧ t.alr.fifo = s.alr.fifo ++ [e] ∧
          e.overrunBefore = s.alr.overrun ∧ t.alr.idleCount = 0 ∧ t.alr.armed = true ∧ t.alr.lost = s.alr.lost ∧
          t.alr.rate = s.alr.rate ∧
          (bit b.stop = true → t.alr.state = .hunt ∧
            e = { value := some value, noise := noise, parity := odd, framing := false, isBreak := false
                  overrunBefore := s.alr.overrun }) ∧
          (bit b.stop = false → value ≠ 0 ∨ bit b.parity = true → t.alr.state = .hunt ∧
            e = { value := some value, noise := noise, parity := odd, framing := true, isBreak := false
                  overrunBefore := s.alr.overrun }) ∧
          (bit b.stop = false → value = 0 → bit b.parity = false → t.alr.state = .breakWait ∧
            e = { value := some 0, noise := noise, parity := false, framing := false, isBreak := true
                  overrunBefore := s.alr.overrun })) ∧
      (s.alr.state = .receiving → 32 ≤ s.alr.fifo.length →
        ∃ t, exec (.lineByteComplete b) s = .next t ∧ t.alr.fifo = s.alr.fifo ∧ t.alr.overrun = true ∧
          t.alr.lost = min 4294967295 (s.alr.lost + 1) ∧ t.alr.idleCount = 0 ∧ t.alr.armed = true ∧ t.alr.rate = s.alr.rate ∧
          (t.alr.state = .breakWait ↔ bit b.stop = false ∧ bit b.parity = false ∧ ∀ k : Fin 8, bit b.data[k] = false) ∧
          (t.alr.state ≠ .breakWait → t.alr.state = .hunt) ∧
          t = { s with alr := t.alr, sw := { s.sw with cause := s.sw.cause ||| Cause.link.word } }) ∧
      (s.alr.state ≠ .receiving → exec (.lineByteComplete b) s = .next s) ∧
      (s.alr.state = .breakWait → ∃ t, exec .breakWaitEnd s = .next t ∧ t.alr.state = .hunt ∧
        t = { s with alr := { s.alr with state := .hunt, lastSample := t.alr.lastSample, highRun := t.alr.highRun } }) ∧
      (s.alr.state ≠ .breakWait → exec .breakWaitEnd s = .next s))

/-- The idle marker (R152 to R154): in HUNT while armed it completes with the idle count at 320 and the marker disarmed, stored with
OVERRUN_BEFORE after a loss, or lost when the FIFO holds 32 entries, which is counted with LINK raised and the overrun pending.
It says nothing of the line's level: after it, a falling edge with no sample at level 1 before it makes no start (R151). Samples before
a falling edge count while armed, and complete the marker when they reach 320. -/
def Obligations.IdleMarkerCompletes : Prop :=
  ∀ (s : State) (hunted : Nat), s.alr.state = .hunt → s.alr.armed = true →
    let marker (before : Bool) : FifoEntry :=
      { value := none, noise := false, parity := false, framing := false, isBreak := false, overrunBefore := before }
    (s.alr.fifo.length < 32 → exec .idleMarker s = .next { s with alr := { s.alr with
      fifo := s.alr.fifo ++ [marker s.alr.overrun], overrun := false, idleCount := 320, armed := false } }) ∧
    (32 ≤ s.alr.fifo.length → exec .idleMarker s = .next { s with
      alr := { s.alr with
        lost := min 4294967295 (s.alr.lost + 1), overrun := true, idleCount := 320, armed := false }
      sw := { s.sw with cause := s.sw.cause ||| Cause.link.word } }) ∧
    (s.alr.lastSample = false → ∃ t, exec .idleMarker s = .next t ∧ exec (.lineFallingEdge 0) t = .next t) ∧
    (0 < hunted → s.alr.idleCount + hunted + 1 < 320 → exec (.lineFallingEdge hunted) s =
      .next { s with alr := { s.alr with
        state := .start, samplePos := 0, bit := .start, lastSample := false
        idleCount := s.alr.idleCount + hunted + 1 } }) ∧
    (0 < hunted → 320 ≤ s.alr.idleCount + hunted + 1 → s.alr.fifo.length < 32 → exec (.lineFallingEdge hunted) s =
      .next { s with alr := { s.alr with
        state := .start, samplePos := 0, bit := .start, lastSample := false, idleCount := 320, armed := false
        fifo := s.alr.fifo ++ [marker s.alr.overrun], overrun := false } })

/-! ### The Telegram Parser (R153, R157 to R161) -/

/-- The parser takes the oldest entry unless it is in HOLD or the FIFO is empty (R153, R161). A BREAK begins a telegram, and rejects
one under assembly with OVERRUN or RESTART; in HUNT any other entry is discarded; elsewhere the first fault that applies rejects
the telegram and returns to HUNT (R157). Each reject counts its reason and raises LINK (R156). -/
def Obligations.ParserTakesEntry : Prop :=
  ∀ (s : State) (e : FifoEntry) (rest : List FifoEntry),
    let taken : State := { s with alr := { s.alr with fifo := rest } }
    let rejected (reason : RejectReason) (after : ParserState) : State :=
      { taken with
        tgp := { s.tgp with
          state := after, len := 0, body := [], crc := []
          rejects := s.tgp.rejects.set reason.index (min 65535 (s.tgp.rejects[reason.index] + 1)) }
        sw := { s.sw with cause := s.sw.cause ||| Cause.link.word } }
    let assembling := s.tgp.state = .length ∨ s.tgp.state = .body ∨ s.tgp.state = .check
    (s.alr.fifo = [] ∨ s.tgp.state = .hold → exec .parserTakeEntry s = .next s) ∧
    (s.alr.fifo = e :: rest →
      (e.isBreak = true → s.tgp.state = .hunt ∨ s.tgp.state = .marker →
        exec .parserTakeEntry s = .next { taken with tgp := { s.tgp with state := .marker } }) ∧
      (e.isBreak = true → assembling → exec .parserTakeEntry s =
        .next (rejected (if e.overrunBefore then .overrun else .restart) .marker)) ∧
      (e.isBreak = false → s.tgp.state = .hunt → exec .parserTakeEntry s = .next taken) ∧
      (e.isBreak = false → s.tgp.state = .marker ∨ assembling →
        (e.overrunBefore = true → exec .parserTakeEntry s = .next (rejected .overrun .hunt)) ∧
        (e.overrunBefore = false → e.value = none → exec .parserTakeEntry s = .next (rejected .timeout .hunt)) ∧
        (e.overrunBefore = false → e.value ≠ none → e.framing = true →
          exec .parserTakeEntry s = .next (rejected .framing .hunt)) ∧
        (e.overrunBefore = false → e.value ≠ none → e.framing = false → e.parity = true →
          exec .parserTakeEntry s = .next (rejected .parity .hunt)) ∧
        (e.overrunBefore = false → e.value ≠ none → e.framing = false → e.parity = false → e.noise = true →
          exec .parserTakeEntry s = .next (rejected .noise .hunt))))

/-- A clean byte (R157 to R160): 0xA5 opens a telegram and any other byte in MARKER closes it; N outside 9..137 is a FORMAT
reject; body bytes are collected to N and then the CRC; the second CRC byte completes the telegram. A TEST that passes is
counted and its id kept, with TEST raised, and reaches no queue; an ALERT or a CLEAR that passes is held; one that fails is
rejected by its first failing check. -/
def Obligations.TelegramAssembled : Prop :=
  ∀ (s : State) (b : Byte) (rest : List FifoEntry),
    s.alr.fifo = { value := some b, noise := false, parity := false, framing := false, isBreak := false
                   overrunBefore := false } :: rest →
    let taken : State := { s with alr := { s.alr with fifo := rest } }
    let m := s.tgp
    let kind := byteAt m.body 0
    let level := (byteAt m.body 2).toNat
    let area := u16At m.body 4
    let codes := ((s.cp.accepted.map (·.areaCodes)).getD []).filter (· != 0)
    let wellFormed := fieldAt m.body 8 1 = m.len - 9 ∧ (kind = 1 ∨ kind = 2 ∨ kind = 3)
    let sound := crc16 (BitVec.ofNat 8 m.len :: m.body) = u16At (m.crc ++ [b]) 0
    let levelOk := kind = 1 → 1 ≤ level ∧ level ≤ 3
    let areaOk := area = 0xFFFF#16 ∨ 0xFFFF#16 ∈ codes ∨ area ∈ codes
    let rejected (reason : RejectReason) : State :=
      { taken with
        tgp := { m with
          state := .hunt, len := 0, body := [], crc := []
          rejects := m.rejects.set reason.index (min 65535 (m.rejects[reason.index] + 1)) }
        sw := { s.sw with cause := s.sw.cause ||| Cause.link.word } }
    (m.state = .marker → exec .parserTakeEntry s =
      .next { taken with tgp := { m with state := if b = 0xA5#8 then .length else .hunt } }) ∧
    (m.state = .length → 9 ≤ b.toNat → b.toNat ≤ 137 → exec .parserTakeEntry s =
      .next { taken with tgp := { m with state := .body, len := b.toNat, body := [], crc := [] } }) ∧
    (m.state = .length → b.toNat < 9 ∨ 137 < b.toNat → exec .parserTakeEntry s = .next (rejected .format)) ∧
    (m.state = .body → exec .parserTakeEntry s = .next { taken with
      tgp := { m with body := m.body ++ [b], state := if m.body.length + 1 < m.len then .body else .check } }) ∧
    (m.state = .check → m.crc = [] → exec .parserTakeEntry s = .next { taken with tgp := { m with crc := [b] } }) ∧
    (m.state = .check → m.crc.length = 1 →
      (¬ wellFormed → exec .parserTakeEntry s = .next (rejected .format)) ∧
      (wellFormed → ¬ sound → exec .parserTakeEntry s = .next (rejected .check)) ∧
      (wellFormed → sound → ¬ levelOk → exec .parserTakeEntry s = .next (rejected .level)) ∧
      (wellFormed → sound → levelOk → ¬ areaOk → exec .parserTakeEntry s = .next (rejected .area)) ∧
      (wellFormed → sound → areaOk → kind = 3 → exec .parserTakeEntry s = .next { taken with
        tgp := { m with
          state := .hunt, len := 0, body := [], crc := [], lastTest := byteAt m.body 1
          testCount := min 65535 (m.testCount + 1) }
        sw := { s.sw with cause := s.sw.cause ||| Cause.test.word } }) ∧
      (wellFormed → sound → levelOk → areaOk → kind ≠ 3 → exec .parserTakeEntry s = .next { taken with
        tgp := { m with
          state := .hold, len := 0, body := [], crc := []
          hold := some
            { isClear := kind == 2, alertId := byteAt m.body 1, level := byteAt m.body 2, mask := byteAt m.body 3
              area := area, duration := fieldAt m.body 6 2, text := slice m.body 9 (fieldAt m.body 8 1) } } }))

/-! ### The Memory Port (R185 to R193) -/

/-- A grant outside the quiet time (R187): of the requests waiting, the oldest of the highest class goes to the lowest FREE slot
with the counter's number and the moment, and the counter goes up by 1 from 255 to 0. With none waiting, no slot FREE, or in the
quiet time (R193), there is no grant. A root poll granted is IN_FLIGHT, and the first transfer of a write-back makes it WRITING
with the next status sequence (R36). -/
def Obligations.GrantTakesFront : Prop :=
  ∀ s : State,
    (s.mp.waiting = [] ∨ (∀ k : Fin 8, s.mp.slots[k] ≠ none) ∨ s.mp.quietEnd ≠ none →
      exec .transferGrant s = .next s) ∧
    (s.mp.quietEnd = none → s.mp.waiting ≠ [] → ∀ i : Fin 8, s.mp.slots[i] = none →
      (∀ k : Fin 8, k < i → s.mp.slots[k] ≠ none) →
      ∃ t older r newer, exec .transferGrant s = .next t ∧ s.mp.waiting = older ++ r :: newer ∧
        (∀ x ∈ older, r.cls.rank < x.cls.rank) ∧ (∀ x ∈ newer, r.cls.rank ≤ x.cls.rank) ∧
        t.mp = { s.mp with
          waiting := older ++ newer, grantCounter := s.mp.grantCounter + 1
          slots := s.mp.slots.set i (some
            { request := r, grant := s.mp.grantCounter, grantTime := s.now, withdrawn := false }) } ∧
        t.cp = { s.cp with poll := if r.purpose = .rootPoll then .inFlight else s.cp.poll } ∧
        t.sw = (if r.purpose = .status ∧ s.sw.state = .waiting then
          { s.sw with state := .writing, sequence := s.sw.sequence + 1 } else s.sw) ∧
        t = { s with mp := t.mp, cp := t.cp, sw := t.sw })

/-- The oldest waiting BULK request is promoted to CONTROL after 12 ms, with its place and its entry time (R188); that the clock moves to
that moment is log entry 2. With none waiting there is no promotion, and an end of no quiet time does nothing (log entry 4). At the
end of the quiet time grants are made as long as a slot is FREE and a request waits (R187, R193). -/
def Obligations.PromotionAndQuietEnd : Prop :=
  ∀ s : State,
    ((∀ r ∈ s.mp.waiting, r.cls ≠ .bulk) → exec .bulkPromotion s = .next s) ∧
    (∀ older r newer, s.mp.waiting = older ++ r :: newer → (∀ x ∈ older, x.cls ≠ .bulk) → r.cls = .bulk →
      exec .bulkPromotion s = .next { s with
        now := max s.now (r.entry + 12000)
        mp := { s.mp with waiting := older ++ { r with cls := .control } :: newer } }) ∧
    (s.mp.quietEnd = none → exec .quietTimeEnd s = .next s) ∧
    (∀ at_, s.mp.quietEnd = some at_ → ∃ t, exec .quietTimeEnd s = .next t ∧ t.mp.quietEnd = none ∧
      t.now = max s.now at_ ∧ ((∀ k : Fin 8, t.mp.slots[k] ≠ none) ∨ t.mp.waiting = []) ∧
      t.mp.grantCounter = s.mp.grantCounter + BitVec.ofNat 8 (s.mp.waiting.length - t.mp.waiting.length) ∧
      t.pm = s.pm ∧ t.services = s.services ∧ t.ac = s.ac ∧ t.ss = s.ss ∧ t.modes = s.modes)

/-- A response to a FREE slot, or with another grant number, is ignored and counted nowhere, whichever command brings it (R189). One
that matches a transfer withdrawn frees the slot and discards the outcome, an ERROR counted; so does a timeout, 4 ms after the
grant (R189 to R192). A timeout of a FREE slot does nothing (log entry 4). One that matches a transfer its owner still wants hands the owner its
outcome, as one event (log entry 3): the READ of an alert cell's text makes the cell COMPLETE, with the default text after a
timeout (R164, R189, R190). That the model's clock moves to the timeout is log entry 2. -/
def Obligations.ResponsesMatchTheirSlot : Prop :=
  ∀ (s : State) (i : Fin 8) (grant : BitVec 8) (o : BusOutcome),
    ((∀ f, s.mp.slots[i] = some f → f.grant ≠ grant) →
      exec (.transferResponse i grant o) s = .next s ∧ exec (.staleResponse i grant o) s = .next s) ∧
    (s.mp.slots[i] = none → exec (.transferTimeout i) s = .next s) ∧
    (∀ f bytes, s.mp.slots[i] = some f → f.grant = grant → f.withdrawn = true →
      exec (.transferResponse i grant (.data bytes)) s =
        .next { s with mp := { s.mp with slots := s.mp.slots.set i none } } ∧
      exec (.transferResponse i grant .error) s = .next { s with
        mp := { s.mp with slots := s.mp.slots.set i none, faults := min 4294967295 (s.mp.faults + 1) }
        sw := { s.sw with cause := s.sw.cause ||| Cause.fault.word } } ∧
      exec (.transferTimeout i) s = .next { s with
        now := max s.now (f.grantTime + 4000)
        mp := { s.mp with slots := s.mp.slots.set i none, timeouts := min 4294967295 (s.mp.timeouts + 1) }
        sw := { s.sw with cause := s.sw.cause ||| Cause.fault.word } }) ∧
    (∀ f bytes c, s.mp.slots[i] = some f → f.grant = grant → f.withdrawn = false → f.request.purpose = .alertText →
      f.request.data = none → f.request.len = bytes.length → s.mp.completing = false → s.ac.cell = some c →
      let answered : State := { s with
        mp := { s.mp with slots := s.mp.slots.set i none }
        ac := { s.ac with cell := some { c with complete := true, text := bytes } } }
      exec (.transferResponse i grant (.data bytes)) s = .next answered ∧
      exec (.staleResponse i grant (.data bytes)) s = .next answered ∧
      exec (.transferTimeout i) s = .next { s with
        now := max s.now (f.grantTime + 4000)
        mp := { s.mp with slots := s.mp.slots.set i none, timeouts := min 4294967295 (s.mp.timeouts + 1) }
        sw := { s.sw with cause := s.sw.cause ||| Cause.fault.word }
        ac := { s.ac with cell := some { c with
          complete := true, text := if s.ss.text.state = .valid then s.ss.text.bytes.take 128 else [] } } })

/-! ### What holds at all times -/

/-- Every step keeps the Receive FIFO at 32 entries at most (R153), and the length of every request, waiting in the list or in a
slot, within 1 to 256 bytes (R183). -/
def Obligations.FifoAndRequestsStayBounded : Prop :=
  ∀ s t : State, step s = .next t → (FifoBounded s → FifoBounded t) ∧ (BurstsBounded s → BurstsBounded t)

/-- Every step, over valid plans, keeps a service for each entry of the ACTIVE plan in its order and for no other (R54, R58), the
repeat buffer of each within the audio that its field can carry, and the payload of a slot that is fetched too (R55, R62, R69). -/
def Obligations.ServicesStaySound : Prop :=
  ∀ s t : State, PlansSound s → ServicesSound s → step s = .next t → ServicesSound t

/-- Every step keeps the Alert Queue as R167 promises it. -/
def Obligations.AlertQueueStaysSound : Prop := ∀ s t : State, QueueSound s.ac → step s = .next t → QueueSound t.ac

/-- Every step keeps every credit counter within 8 times its quantum in force (R86). -/
def Obligations.CreditsStayBounded : Prop := ∀ s t : State, CreditsBounded s → step s = .next t → CreditsBounded t

/-- Every step keeps the plans in READY banks valid: the cell ranges of the active plan lie within cells 0 to 599 and no two overlap
(R42). Every step keeps the countdown in 0..16, and STAGED READY in COUNTDOWN and CANCELLING (R40). -/
def Obligations.PlansAndCountdownStaySound : Prop :=
  ∀ s t : State, step s = .next t → (PlansSound s → PlansSound t) ∧ (CountdownSound s → CountdownSound t)

/-- Every step that leaves or finds the device in STOPPED leaves it at rest there (R9, R18, R27, R147). -/
def Obligations.StoppedStaysAtRest : Prop := ∀ s t : State, RestInStopped s → step s = .next t → RestInStopped t

/-- The state after power-on reset meets every condition that the steps keep. -/
def Obligations.ResetMeetsConditions : Prop :=
  FifoBounded State.reset ∧ QueueSound State.reset.ac ∧ CreditsBounded State.reset ∧ PlansSound State.reset ∧
    CountdownSound State.reset ∧ BurstsBounded State.reset ∧ RestInStopped State.reset ∧ ServicesSound State.reset
end

