-- ==== Sys2Proof/Laws/State.lean ====
section
/-! SUPPORT. What each named update of the state leaves alone, field by field, so that no later proof unfolds a record
update. -/

namespace Sys2Proof.Machine

variable (s : State)

/-! `raise` changes sw alone. -/

@[simp] theorem raise_pending (c : Cause) : (raise c s).pending = s.pending := rfl
@[simp] theorem raise_now (c : Cause) : (raise c s).now = s.now := rfl
@[simp] theorem raise_freeDraws (c : Cause) : (raise c s).freeDraws = s.freeDraws := rfl
@[simp] theorem raise_modes (c : Cause) : (raise c s).modes = s.modes := rfl
@[simp] theorem raise_regs (c : Cause) : (raise c s).regs = s.regs := rfl
@[simp] theorem raise_ft (c : Cause) : (raise c s).ft = s.ft := rfl
@[simp] theorem raise_cp (c : Cause) : (raise c s).cp = s.cp := rfl
@[simp] theorem raise_pm (c : Cause) : (raise c s).pm = s.pm := rfl
@[simp] theorem raise_services (c : Cause) : (raise c s).services = s.services := rfl
@[simp] theorem raise_alertSlot (c : Cause) : (raise c s).alertSlot = s.alertSlot := rfl
@[simp] theorem raise_alertAudio (c : Cause) : (raise c s).alertAudio = s.alertAudio := rfl
@[simp] theorem raise_dg (c : Cause) : (raise c s).dg = s.dg := rfl
@[simp] theorem raise_completed (c : Cause) : (raise c s).completed = s.completed := rfl
@[simp] theorem raise_tp (c : Cause) : (raise c s).tp = s.tp := rfl
@[simp] theorem raise_alr (c : Cause) : (raise c s).alr = s.alr := rfl
@[simp] theorem raise_tgp (c : Cause) : (raise c s).tgp = s.tgp := rfl
@[simp] theorem raise_ac (c : Cause) : (raise c s).ac = s.ac := rfl
@[simp] theorem raise_ss (c : Cause) : (raise c s).ss = s.ss := rfl
@[simp] theorem raise_mp (c : Cause) : (raise c s).mp = s.mp := rfl

/-! `reachTime` changes now alone. -/

@[simp] theorem reachTime_pending (t : Nat) : (reachTime t s).pending = s.pending := rfl
@[simp] theorem reachTime_freeDraws (t : Nat) : (reachTime t s).freeDraws = s.freeDraws := rfl
@[simp] theorem reachTime_modes (t : Nat) : (reachTime t s).modes = s.modes := rfl
@[simp] theorem reachTime_regs (t : Nat) : (reachTime t s).regs = s.regs := rfl
@[simp] theorem reachTime_ft (t : Nat) : (reachTime t s).ft = s.ft := rfl
@[simp] theorem reachTime_cp (t : Nat) : (reachTime t s).cp = s.cp := rfl
@[simp] theorem reachTime_pm (t : Nat) : (reachTime t s).pm = s.pm := rfl
@[simp] theorem reachTime_services (t : Nat) : (reachTime t s).services = s.services := rfl
@[simp] theorem reachTime_alertSlot (t : Nat) : (reachTime t s).alertSlot = s.alertSlot := rfl
@[simp] theorem reachTime_alertAudio (t : Nat) : (reachTime t s).alertAudio = s.alertAudio := rfl
@[simp] theorem reachTime_dg (t : Nat) : (reachTime t s).dg = s.dg := rfl
@[simp] theorem reachTime_completed (t : Nat) : (reachTime t s).completed = s.completed := rfl
@[simp] theorem reachTime_tp (t : Nat) : (reachTime t s).tp = s.tp := rfl
@[simp] theorem reachTime_alr (t : Nat) : (reachTime t s).alr = s.alr := rfl
@[simp] theorem reachTime_tgp (t : Nat) : (reachTime t s).tgp = s.tgp := rfl
@[simp] theorem reachTime_ac (t : Nat) : (reachTime t s).ac = s.ac := rfl
@[simp] theorem reachTime_ss (t : Nat) : (reachTime t s).ss = s.ss := rfl
@[simp] theorem reachTime_mp (t : Nat) : (reachTime t s).mp = s.mp := rfl
@[simp] theorem reachTime_sw (t : Nat) : (reachTime t s).sw = s.sw := rfl

/-! `updateService` changes services alone. -/

@[simp] theorem updateService_pending (sid : U16) (f : Service → Service) : (updateService sid f s).pending = s.pending := rfl
@[simp] theorem updateService_now (sid : U16) (f : Service → Service) : (updateService sid f s).now = s.now := rfl
@[simp] theorem updateService_freeDraws (sid : U16) (f : Service → Service) : (updateService sid f s).freeDraws = s.freeDraws := rfl
@[simp] theorem updateService_modes (sid : U16) (f : Service → Service) : (updateService sid f s).modes = s.modes := rfl
@[simp] theorem updateService_regs (sid : U16) (f : Service → Service) : (updateService sid f s).regs = s.regs := rfl
@[simp] theorem updateService_ft (sid : U16) (f : Service → Service) : (updateService sid f s).ft = s.ft := rfl
@[simp] theorem updateService_cp (sid : U16) (f : Service → Service) : (updateService sid f s).cp = s.cp := rfl
@[simp] theorem updateService_pm (sid : U16) (f : Service → Service) : (updateService sid f s).pm = s.pm := rfl
@[simp] theorem updateService_alertSlot (sid : U16) (f : Service → Service) : (updateService sid f s).alertSlot = s.alertSlot := rfl
@[simp] theorem updateService_alertAudio (sid : U16) (f : Service → Service) : (updateService sid f s).alertAudio = s.alertAudio := rfl
@[simp] theorem updateService_dg (sid : U16) (f : Service → Service) : (updateService sid f s).dg = s.dg := rfl
@[simp] theorem updateService_completed (sid : U16) (f : Service → Service) : (updateService sid f s).completed = s.completed := rfl
@[simp] theorem updateService_tp (sid : U16) (f : Service → Service) : (updateService sid f s).tp = s.tp := rfl
@[simp] theorem updateService_alr (sid : U16) (f : Service → Service) : (updateService sid f s).alr = s.alr := rfl
@[simp] theorem updateService_tgp (sid : U16) (f : Service → Service) : (updateService sid f s).tgp = s.tgp := rfl
@[simp] theorem updateService_ac (sid : U16) (f : Service → Service) : (updateService sid f s).ac = s.ac := rfl
@[simp] theorem updateService_ss (sid : U16) (f : Service → Service) : (updateService sid f s).ss = s.ss := rfl
@[simp] theorem updateService_mp (sid : U16) (f : Service → Service) : (updateService sid f s).mp = s.mp := rfl
@[simp] theorem updateService_sw (sid : U16) (f : Service → Service) : (updateService sid f s).sw = s.sw := rfl

/-! `updateWhenPacked` is `updateService` in a frame that is packed, and nothing in another. -/

theorem updateWhenPacked_running {s : State} (sid : U16) (f : Service → Service) (h : s.modes.mode = .running) :
    updateWhenPacked sid f s = updateService sid f s := by simp [updateWhenPacked, State.packs, h]

theorem updateWhenPacked_still {s : State} (sid : U16) (f : Service → Service) (h : s.modes.mode ≠ .running) :
    updateWhenPacked sid f s = s := by simp [updateWhenPacked, State.packs, h]

/-! `withPending` changes pending alone. -/

@[simp] theorem withPending_now (q : List Instr) : (State.withPending q s).now = s.now := rfl
@[simp] theorem withPending_freeDraws (q : List Instr) : (State.withPending q s).freeDraws = s.freeDraws := rfl
@[simp] theorem withPending_modes (q : List Instr) : (State.withPending q s).modes = s.modes := rfl
@[simp] theorem withPending_regs (q : List Instr) : (State.withPending q s).regs = s.regs := rfl
@[simp] theorem withPending_ft (q : List Instr) : (State.withPending q s).ft = s.ft := rfl
@[simp] theorem withPending_cp (q : List Instr) : (State.withPending q s).cp = s.cp := rfl
@[simp] theorem withPending_pm (q : List Instr) : (State.withPending q s).pm = s.pm := rfl
@[simp] theorem withPending_services (q : List Instr) : (State.withPending q s).services = s.services := rfl
@[simp] theorem withPending_alertSlot (q : List Instr) : (State.withPending q s).alertSlot = s.alertSlot := rfl
@[simp] theorem withPending_alertAudio (q : List Instr) : (State.withPending q s).alertAudio = s.alertAudio := rfl
@[simp] theorem withPending_dg (q : List Instr) : (State.withPending q s).dg = s.dg := rfl
@[simp] theorem withPending_completed (q : List Instr) : (State.withPending q s).completed = s.completed := rfl
@[simp] theorem withPending_tp (q : List Instr) : (State.withPending q s).tp = s.tp := rfl
@[simp] theorem withPending_alr (q : List Instr) : (State.withPending q s).alr = s.alr := rfl
@[simp] theorem withPending_tgp (q : List Instr) : (State.withPending q s).tgp = s.tgp := rfl
@[simp] theorem withPending_ac (q : List Instr) : (State.withPending q s).ac = s.ac := rfl
@[simp] theorem withPending_ss (q : List Instr) : (State.withPending q s).ss = s.ss := rfl
@[simp] theorem withPending_mp (q : List Instr) : (State.withPending q s).mp = s.mp := rfl
@[simp] theorem withPending_sw (q : List Instr) : (State.withPending q s).sw = s.sw := rfl

/-! `setPending` changes modes alone. -/

@[simp] theorem setPending_pending (r : ModeRequest) : (setPending r s).pending = s.pending := rfl
@[simp] theorem setPending_now (r : ModeRequest) : (setPending r s).now = s.now := rfl
@[simp] theorem setPending_freeDraws (r : ModeRequest) : (setPending r s).freeDraws = s.freeDraws := rfl
@[simp] theorem setPending_regs (r : ModeRequest) : (setPending r s).regs = s.regs := rfl
@[simp] theorem setPending_ft (r : ModeRequest) : (setPending r s).ft = s.ft := rfl
@[simp] theorem setPending_cp (r : ModeRequest) : (setPending r s).cp = s.cp := rfl
@[simp] theorem setPending_pm (r : ModeRequest) : (setPending r s).pm = s.pm := rfl
@[simp] theorem setPending_services (r : ModeRequest) : (setPending r s).services = s.services := rfl
@[simp] theorem setPending_alertSlot (r : ModeRequest) : (setPending r s).alertSlot = s.alertSlot := rfl
@[simp] theorem setPending_alertAudio (r : ModeRequest) : (setPending r s).alertAudio = s.alertAudio := rfl
@[simp] theorem setPending_dg (r : ModeRequest) : (setPending r s).dg = s.dg := rfl
@[simp] theorem setPending_completed (r : ModeRequest) : (setPending r s).completed = s.completed := rfl
@[simp] theorem setPending_tp (r : ModeRequest) : (setPending r s).tp = s.tp := rfl
@[simp] theorem setPending_alr (r : ModeRequest) : (setPending r s).alr = s.alr := rfl
@[simp] theorem setPending_tgp (r : ModeRequest) : (setPending r s).tgp = s.tgp := rfl
@[simp] theorem setPending_ac (r : ModeRequest) : (setPending r s).ac = s.ac := rfl
@[simp] theorem setPending_ss (r : ModeRequest) : (setPending r s).ss = s.ss := rfl
@[simp] theorem setPending_mp (r : ModeRequest) : (setPending r s).mp = s.mp := rfl
@[simp] theorem setPending_sw (r : ModeRequest) : (setPending r s).sw = s.sw := rfl

/-! `releaseSlot` changes mp alone. -/

@[simp] theorem releaseSlot_pending (i : Fin 8) : (releaseSlot i s).pending = s.pending := rfl
@[simp] theorem releaseSlot_now (i : Fin 8) : (releaseSlot i s).now = s.now := rfl
@[simp] theorem releaseSlot_freeDraws (i : Fin 8) : (releaseSlot i s).freeDraws = s.freeDraws := rfl
@[simp] theorem releaseSlot_modes (i : Fin 8) : (releaseSlot i s).modes = s.modes := rfl
@[simp] theorem releaseSlot_regs (i : Fin 8) : (releaseSlot i s).regs = s.regs := rfl
@[simp] theorem releaseSlot_ft (i : Fin 8) : (releaseSlot i s).ft = s.ft := rfl
@[simp] theorem releaseSlot_cp (i : Fin 8) : (releaseSlot i s).cp = s.cp := rfl
@[simp] theorem releaseSlot_pm (i : Fin 8) : (releaseSlot i s).pm = s.pm := rfl
@[simp] theorem releaseSlot_services (i : Fin 8) : (releaseSlot i s).services = s.services := rfl
@[simp] theorem releaseSlot_alertSlot (i : Fin 8) : (releaseSlot i s).alertSlot = s.alertSlot := rfl
@[simp] theorem releaseSlot_alertAudio (i : Fin 8) : (releaseSlot i s).alertAudio = s.alertAudio := rfl
@[simp] theorem releaseSlot_dg (i : Fin 8) : (releaseSlot i s).dg = s.dg := rfl
@[simp] theorem releaseSlot_completed (i : Fin 8) : (releaseSlot i s).completed = s.completed := rfl
@[simp] theorem releaseSlot_tp (i : Fin 8) : (releaseSlot i s).tp = s.tp := rfl
@[simp] theorem releaseSlot_alr (i : Fin 8) : (releaseSlot i s).alr = s.alr := rfl
@[simp] theorem releaseSlot_tgp (i : Fin 8) : (releaseSlot i s).tgp = s.tgp := rfl
@[simp] theorem releaseSlot_ac (i : Fin 8) : (releaseSlot i s).ac = s.ac := rfl
@[simp] theorem releaseSlot_ss (i : Fin 8) : (releaseSlot i s).ss = s.ss := rfl
@[simp] theorem releaseSlot_sw (i : Fin 8) : (releaseSlot i s).sw = s.sw := rfl

/-! `withdraw` changes mp alone. -/

@[simp] theorem withdraw_pending (p : Purpose → Bool) : (withdraw p s).pending = s.pending := rfl
@[simp] theorem withdraw_now (p : Purpose → Bool) : (withdraw p s).now = s.now := rfl
@[simp] theorem withdraw_freeDraws (p : Purpose → Bool) : (withdraw p s).freeDraws = s.freeDraws := rfl
@[simp] theorem withdraw_modes (p : Purpose → Bool) : (withdraw p s).modes = s.modes := rfl
@[simp] theorem withdraw_regs (p : Purpose → Bool) : (withdraw p s).regs = s.regs := rfl
@[simp] theorem withdraw_ft (p : Purpose → Bool) : (withdraw p s).ft = s.ft := rfl
@[simp] theorem withdraw_cp (p : Purpose → Bool) : (withdraw p s).cp = s.cp := rfl
@[simp] theorem withdraw_pm (p : Purpose → Bool) : (withdraw p s).pm = s.pm := rfl
@[simp] theorem withdraw_services (p : Purpose → Bool) : (withdraw p s).services = s.services := rfl
@[simp] theorem withdraw_alertSlot (p : Purpose → Bool) : (withdraw p s).alertSlot = s.alertSlot := rfl
@[simp] theorem withdraw_alertAudio (p : Purpose → Bool) : (withdraw p s).alertAudio = s.alertAudio := rfl
@[simp] theorem withdraw_dg (p : Purpose → Bool) : (withdraw p s).dg = s.dg := rfl
@[simp] theorem withdraw_completed (p : Purpose → Bool) : (withdraw p s).completed = s.completed := rfl
@[simp] theorem withdraw_tp (p : Purpose → Bool) : (withdraw p s).tp = s.tp := rfl
@[simp] theorem withdraw_alr (p : Purpose → Bool) : (withdraw p s).alr = s.alr := rfl
@[simp] theorem withdraw_tgp (p : Purpose → Bool) : (withdraw p s).tgp = s.tgp := rfl
@[simp] theorem withdraw_ac (p : Purpose → Bool) : (withdraw p s).ac = s.ac := rfl
@[simp] theorem withdraw_ss (p : Purpose → Bool) : (withdraw p s).ss = s.ss := rfl
@[simp] theorem withdraw_sw (p : Purpose → Bool) : (withdraw p s).sw = s.sw := rfl

/-! `amendStatus` changes mp alone. -/

@[simp] theorem amendStatus_pending (a : Addr) : (amendStatus a s).pending = s.pending := rfl
@[simp] theorem amendStatus_now (a : Addr) : (amendStatus a s).now = s.now := rfl
@[simp] theorem amendStatus_freeDraws (a : Addr) : (amendStatus a s).freeDraws = s.freeDraws := rfl
@[simp] theorem amendStatus_modes (a : Addr) : (amendStatus a s).modes = s.modes := rfl
@[simp] theorem amendStatus_regs (a : Addr) : (amendStatus a s).regs = s.regs := rfl
@[simp] theorem amendStatus_ft (a : Addr) : (amendStatus a s).ft = s.ft := rfl
@[simp] theorem amendStatus_cp (a : Addr) : (amendStatus a s).cp = s.cp := rfl
@[simp] theorem amendStatus_pm (a : Addr) : (amendStatus a s).pm = s.pm := rfl
@[simp] theorem amendStatus_services (a : Addr) : (amendStatus a s).services = s.services := rfl
@[simp] theorem amendStatus_alertSlot (a : Addr) : (amendStatus a s).alertSlot = s.alertSlot := rfl
@[simp] theorem amendStatus_alertAudio (a : Addr) : (amendStatus a s).alertAudio = s.alertAudio := rfl
@[simp] theorem amendStatus_dg (a : Addr) : (amendStatus a s).dg = s.dg := rfl
@[simp] theorem amendStatus_completed (a : Addr) : (amendStatus a s).completed = s.completed := rfl
@[simp] theorem amendStatus_tp (a : Addr) : (amendStatus a s).tp = s.tp := rfl
@[simp] theorem amendStatus_alr (a : Addr) : (amendStatus a s).alr = s.alr := rfl
@[simp] theorem amendStatus_tgp (a : Addr) : (amendStatus a s).tgp = s.tgp := rfl
@[simp] theorem amendStatus_ac (a : Addr) : (amendStatus a s).ac = s.ac := rfl
@[simp] theorem amendStatus_ss (a : Addr) : (amendStatus a s).ss = s.ss := rfl
@[simp] theorem amendStatus_sw (a : Addr) : (amendStatus a s).sw = s.sw := rfl

/-! `updatePicture` changes services alone. -/

@[simp] theorem updatePicture_pending (sid : U16) (f : PictureState → PictureState) : (updatePicture sid f s).pending = s.pending := rfl
@[simp] theorem updatePicture_now (sid : U16) (f : PictureState → PictureState) : (updatePicture sid f s).now = s.now := rfl
@[simp] theorem updatePicture_freeDraws (sid : U16) (f : PictureState → PictureState) : (updatePicture sid f s).freeDraws = s.freeDraws := rfl
@[simp] theorem updatePicture_modes (sid : U16) (f : PictureState → PictureState) : (updatePicture sid f s).modes = s.modes := rfl
@[simp] theorem updatePicture_regs (sid : U16) (f : PictureState → PictureState) : (updatePicture sid f s).regs = s.regs := rfl
@[simp] theorem updatePicture_ft (sid : U16) (f : PictureState → PictureState) : (updatePicture sid f s).ft = s.ft := rfl
@[simp] theorem updatePicture_cp (sid : U16) (f : PictureState → PictureState) : (updatePicture sid f s).cp = s.cp := rfl
@[simp] theorem updatePicture_pm (sid : U16) (f : PictureState → PictureState) : (updatePicture sid f s).pm = s.pm := rfl
@[simp] theorem updatePicture_alertSlot (sid : U16) (f : PictureState → PictureState) : (updatePicture sid f s).alertSlot = s.alertSlot := rfl
@[simp] theorem updatePicture_alertAudio (sid : U16) (f : PictureState → PictureState) : (updatePicture sid f s).alertAudio = s.alertAudio := rfl
@[simp] theorem updatePicture_dg (sid : U16) (f : PictureState → PictureState) : (updatePicture sid f s).dg = s.dg := rfl
@[simp] theorem updatePicture_completed (sid : U16) (f : PictureState → PictureState) : (updatePicture sid f s).completed = s.completed := rfl
@[simp] theorem updatePicture_tp (sid : U16) (f : PictureState → PictureState) : (updatePicture sid f s).tp = s.tp := rfl
@[simp] theorem updatePicture_alr (sid : U16) (f : PictureState → PictureState) : (updatePicture sid f s).alr = s.alr := rfl
@[simp] theorem updatePicture_tgp (sid : U16) (f : PictureState → PictureState) : (updatePicture sid f s).tgp = s.tgp := rfl
@[simp] theorem updatePicture_ac (sid : U16) (f : PictureState → PictureState) : (updatePicture sid f s).ac = s.ac := rfl
@[simp] theorem updatePicture_ss (sid : U16) (f : PictureState → PictureState) : (updatePicture sid f s).ss = s.ss := rfl
@[simp] theorem updatePicture_mp (sid : U16) (f : PictureState → PictureState) : (updatePicture sid f s).mp = s.mp := rfl
@[simp] theorem updatePicture_sw (sid : U16) (f : PictureState → PictureState) : (updatePicture sid f s).sw = s.sw := rfl

/-! `setLabelRead` changes services alone. -/

@[simp] theorem setLabelRead_pending (sid : U16) (r : RecordRead) : (setLabelRead sid r s).pending = s.pending := rfl
@[simp] theorem setLabelRead_now (sid : U16) (r : RecordRead) : (setLabelRead sid r s).now = s.now := rfl
@[simp] theorem setLabelRead_freeDraws (sid : U16) (r : RecordRead) : (setLabelRead sid r s).freeDraws = s.freeDraws := rfl
@[simp] theorem setLabelRead_modes (sid : U16) (r : RecordRead) : (setLabelRead sid r s).modes = s.modes := rfl
@[simp] theorem setLabelRead_regs (sid : U16) (r : RecordRead) : (setLabelRead sid r s).regs = s.regs := rfl
@[simp] theorem setLabelRead_ft (sid : U16) (r : RecordRead) : (setLabelRead sid r s).ft = s.ft := rfl
@[simp] theorem setLabelRead_cp (sid : U16) (r : RecordRead) : (setLabelRead sid r s).cp = s.cp := rfl
@[simp] theorem setLabelRead_pm (sid : U16) (r : RecordRead) : (setLabelRead sid r s).pm = s.pm := rfl
@[simp] theorem setLabelRead_alertSlot (sid : U16) (r : RecordRead) : (setLabelRead sid r s).alertSlot = s.alertSlot := rfl
@[simp] theorem setLabelRead_alertAudio (sid : U16) (r : RecordRead) : (setLabelRead sid r s).alertAudio = s.alertAudio := rfl
@[simp] theorem setLabelRead_dg (sid : U16) (r : RecordRead) : (setLabelRead sid r s).dg = s.dg := rfl
@[simp] theorem setLabelRead_completed (sid : U16) (r : RecordRead) : (setLabelRead sid r s).completed = s.completed := rfl
@[simp] theorem setLabelRead_tp (sid : U16) (r : RecordRead) : (setLabelRead sid r s).tp = s.tp := rfl
@[simp] theorem setLabelRead_alr (sid : U16) (r : RecordRead) : (setLabelRead sid r s).alr = s.alr := rfl
@[simp] theorem setLabelRead_tgp (sid : U16) (r : RecordRead) : (setLabelRead sid r s).tgp = s.tgp := rfl
@[simp] theorem setLabelRead_ac (sid : U16) (r : RecordRead) : (setLabelRead sid r s).ac = s.ac := rfl
@[simp] theorem setLabelRead_ss (sid : U16) (r : RecordRead) : (setLabelRead sid r s).ss = s.ss := rfl
@[simp] theorem setLabelRead_mp (sid : U16) (r : RecordRead) : (setLabelRead sid r s).mp = s.mp := rfl
@[simp] theorem setLabelRead_sw (sid : U16) (r : RecordRead) : (setLabelRead sid r s).sw = s.sw := rfl

/-! `ignorePoll` changes cp alone. -/

@[simp] theorem ignorePoll_pending  : (ignorePoll s).pending = s.pending := rfl
@[simp] theorem ignorePoll_now  : (ignorePoll s).now = s.now := rfl
@[simp] theorem ignorePoll_freeDraws  : (ignorePoll s).freeDraws = s.freeDraws := rfl
@[simp] theorem ignorePoll_modes  : (ignorePoll s).modes = s.modes := rfl
@[simp] theorem ignorePoll_regs  : (ignorePoll s).regs = s.regs := rfl
@[simp] theorem ignorePoll_ft  : (ignorePoll s).ft = s.ft := rfl
@[simp] theorem ignorePoll_pm  : (ignorePoll s).pm = s.pm := rfl
@[simp] theorem ignorePoll_services  : (ignorePoll s).services = s.services := rfl
@[simp] theorem ignorePoll_alertSlot  : (ignorePoll s).alertSlot = s.alertSlot := rfl
@[simp] theorem ignorePoll_alertAudio  : (ignorePoll s).alertAudio = s.alertAudio := rfl
@[simp] theorem ignorePoll_dg  : (ignorePoll s).dg = s.dg := rfl
@[simp] theorem ignorePoll_completed  : (ignorePoll s).completed = s.completed := rfl
@[simp] theorem ignorePoll_tp  : (ignorePoll s).tp = s.tp := rfl
@[simp] theorem ignorePoll_alr  : (ignorePoll s).alr = s.alr := rfl
@[simp] theorem ignorePoll_tgp  : (ignorePoll s).tgp = s.tgp := rfl
@[simp] theorem ignorePoll_ac  : (ignorePoll s).ac = s.ac := rfl
@[simp] theorem ignorePoll_ss  : (ignorePoll s).ss = s.ss := rfl
@[simp] theorem ignorePoll_mp  : (ignorePoll s).mp = s.mp := rfl
@[simp] theorem ignorePoll_sw  : (ignorePoll s).sw = s.sw := rfl

/-! `planResult` changes pm and sw alone. -/

@[simp] theorem planResult_pending (r : PlanResult) : (planResult r s).pending = s.pending := rfl
@[simp] theorem planResult_now (r : PlanResult) : (planResult r s).now = s.now := rfl
@[simp] theorem planResult_freeDraws (r : PlanResult) : (planResult r s).freeDraws = s.freeDraws := rfl
@[simp] theorem planResult_modes (r : PlanResult) : (planResult r s).modes = s.modes := rfl
@[simp] theorem planResult_regs (r : PlanResult) : (planResult r s).regs = s.regs := rfl
@[simp] theorem planResult_ft (r : PlanResult) : (planResult r s).ft = s.ft := rfl
@[simp] theorem planResult_cp (r : PlanResult) : (planResult r s).cp = s.cp := rfl
@[simp] theorem planResult_services (r : PlanResult) : (planResult r s).services = s.services := rfl
@[simp] theorem planResult_alertSlot (r : PlanResult) : (planResult r s).alertSlot = s.alertSlot := rfl
@[simp] theorem planResult_alertAudio (r : PlanResult) : (planResult r s).alertAudio = s.alertAudio := rfl
@[simp] theorem planResult_dg (r : PlanResult) : (planResult r s).dg = s.dg := rfl
@[simp] theorem planResult_completed (r : PlanResult) : (planResult r s).completed = s.completed := rfl
@[simp] theorem planResult_tp (r : PlanResult) : (planResult r s).tp = s.tp := rfl
@[simp] theorem planResult_alr (r : PlanResult) : (planResult r s).alr = s.alr := rfl
@[simp] theorem planResult_tgp (r : PlanResult) : (planResult r s).tgp = s.tgp := rfl
@[simp] theorem planResult_ac (r : PlanResult) : (planResult r s).ac = s.ac := rfl
@[simp] theorem planResult_ss (r : PlanResult) : (planResult r s).ss = s.ss := rfl
@[simp] theorem planResult_mp (r : PlanResult) : (planResult r s).mp = s.mp := rfl

/-! `standbyResult` changes ss and sw alone. -/

@[simp] theorem standbyResult_pending (r : LoadResult) : (standbyResult r s).pending = s.pending := rfl
@[simp] theorem standbyResult_now (r : LoadResult) : (standbyResult r s).now = s.now := rfl
@[simp] theorem standbyResult_freeDraws (r : LoadResult) : (standbyResult r s).freeDraws = s.freeDraws := rfl
@[simp] theorem standbyResult_modes (r : LoadResult) : (standbyResult r s).modes = s.modes := rfl
@[simp] theorem standbyResult_regs (r : LoadResult) : (standbyResult r s).regs = s.regs := rfl
@[simp] theorem standbyResult_ft (r : LoadResult) : (standbyResult r s).ft = s.ft := rfl
@[simp] theorem standbyResult_cp (r : LoadResult) : (standbyResult r s).cp = s.cp := rfl
@[simp] theorem standbyResult_pm (r : LoadResult) : (standbyResult r s).pm = s.pm := rfl
@[simp] theorem standbyResult_services (r : LoadResult) : (standbyResult r s).services = s.services := rfl
@[simp] theorem standbyResult_alertSlot (r : LoadResult) : (standbyResult r s).alertSlot = s.alertSlot := rfl
@[simp] theorem standbyResult_alertAudio (r : LoadResult) : (standbyResult r s).alertAudio = s.alertAudio := rfl
@[simp] theorem standbyResult_dg (r : LoadResult) : (standbyResult r s).dg = s.dg := rfl
@[simp] theorem standbyResult_completed (r : LoadResult) : (standbyResult r s).completed = s.completed := rfl
@[simp] theorem standbyResult_tp (r : LoadResult) : (standbyResult r s).tp = s.tp := rfl
@[simp] theorem standbyResult_alr (r : LoadResult) : (standbyResult r s).alr = s.alr := rfl
@[simp] theorem standbyResult_tgp (r : LoadResult) : (standbyResult r s).tgp = s.tgp := rfl
@[simp] theorem standbyResult_ac (r : LoadResult) : (standbyResult r s).ac = s.ac := rfl
@[simp] theorem standbyResult_mp (r : LoadResult) : (standbyResult r s).mp = s.mp := rfl

/-! `changeMode` changes modes and sw alone. -/

@[simp] theorem changeMode_pending (m : DevMode) (p : ModeRequest) (r : ResumeReason) : (changeMode m p r s).pending = s.pending := rfl
@[simp] theorem changeMode_now (m : DevMode) (p : ModeRequest) (r : ResumeReason) : (changeMode m p r s).now = s.now := rfl
@[simp] theorem changeMode_freeDraws (m : DevMode) (p : ModeRequest) (r : ResumeReason) : (changeMode m p r s).freeDraws = s.freeDraws := rfl
@[simp] theorem changeMode_regs (m : DevMode) (p : ModeRequest) (r : ResumeReason) : (changeMode m p r s).regs = s.regs := rfl
@[simp] theorem changeMode_ft (m : DevMode) (p : ModeRequest) (r : ResumeReason) : (changeMode m p r s).ft = s.ft := rfl
@[simp] theorem changeMode_cp (m : DevMode) (p : ModeRequest) (r : ResumeReason) : (changeMode m p r s).cp = s.cp := rfl
@[simp] theorem changeMode_pm (m : DevMode) (p : ModeRequest) (r : ResumeReason) : (changeMode m p r s).pm = s.pm := rfl
@[simp] theorem changeMode_services (m : DevMode) (p : ModeRequest) (r : ResumeReason) : (changeMode m p r s).services = s.services := rfl
@[simp] theorem changeMode_alertSlot (m : DevMode) (p : ModeRequest) (r : ResumeReason) : (changeMode m p r s).alertSlot = s.alertSlot := rfl
@[simp] theorem changeMode_alertAudio (m : DevMode) (p : ModeRequest) (r : ResumeReason) : (changeMode m p r s).alertAudio = s.alertAudio := rfl
@[simp] theorem changeMode_dg (m : DevMode) (p : ModeRequest) (r : ResumeReason) : (changeMode m p r s).dg = s.dg := rfl
@[simp] theorem changeMode_completed (m : DevMode) (p : ModeRequest) (r : ResumeReason) : (changeMode m p r s).completed = s.completed := rfl
@[simp] theorem changeMode_tp (m : DevMode) (p : ModeRequest) (r : ResumeReason) : (changeMode m p r s).tp = s.tp := rfl
@[simp] theorem changeMode_alr (m : DevMode) (p : ModeRequest) (r : ResumeReason) : (changeMode m p r s).alr = s.alr := rfl
@[simp] theorem changeMode_tgp (m : DevMode) (p : ModeRequest) (r : ResumeReason) : (changeMode m p r s).tgp = s.tgp := rfl
@[simp] theorem changeMode_ac (m : DevMode) (p : ModeRequest) (r : ResumeReason) : (changeMode m p r s).ac = s.ac := rfl
@[simp] theorem changeMode_ss (m : DevMode) (p : ModeRequest) (r : ResumeReason) : (changeMode m p r s).ss = s.ss := rfl
@[simp] theorem changeMode_mp (m : DevMode) (p : ModeRequest) (r : ResumeReason) : (changeMode m p r s).mp = s.mp := rfl

/-! `reject` changes tgp and sw alone. -/

@[simp] theorem reject_pending (r : RejectReason) (p : ParserState) : (reject r p s).pending = s.pending := rfl
@[simp] theorem reject_now (r : RejectReason) (p : ParserState) : (reject r p s).now = s.now := rfl
@[simp] theorem reject_freeDraws (r : RejectReason) (p : ParserState) : (reject r p s).freeDraws = s.freeDraws := rfl
@[simp] theorem reject_modes (r : RejectReason) (p : ParserState) : (reject r p s).modes = s.modes := rfl
@[simp] theorem reject_regs (r : RejectReason) (p : ParserState) : (reject r p s).regs = s.regs := rfl
@[simp] theorem reject_ft (r : RejectReason) (p : ParserState) : (reject r p s).ft = s.ft := rfl
@[simp] theorem reject_cp (r : RejectReason) (p : ParserState) : (reject r p s).cp = s.cp := rfl
@[simp] theorem reject_pm (r : RejectReason) (p : ParserState) : (reject r p s).pm = s.pm := rfl
@[simp] theorem reject_services (r : RejectReason) (p : ParserState) : (reject r p s).services = s.services := rfl
@[simp] theorem reject_alertSlot (r : RejectReason) (p : ParserState) : (reject r p s).alertSlot = s.alertSlot := rfl
@[simp] theorem reject_alertAudio (r : RejectReason) (p : ParserState) : (reject r p s).alertAudio = s.alertAudio := rfl
@[simp] theorem reject_dg (r : RejectReason) (p : ParserState) : (reject r p s).dg = s.dg := rfl
@[simp] theorem reject_completed (r : RejectReason) (p : ParserState) : (reject r p s).completed = s.completed := rfl
@[simp] theorem reject_tp (r : RejectReason) (p : ParserState) : (reject r p s).tp = s.tp := rfl
@[simp] theorem reject_alr (r : RejectReason) (p : ParserState) : (reject r p s).alr = s.alr := rfl
@[simp] theorem reject_ac (r : RejectReason) (p : ParserState) : (reject r p s).ac = s.ac := rfl
@[simp] theorem reject_ss (r : RejectReason) (p : ParserState) : (reject r p s).ss = s.ss := rfl
@[simp] theorem reject_mp (r : RejectReason) (p : ParserState) : (reject r p s).mp = s.mp := rfl

/-! What the updates write. -/

@[simp] theorem raise_cause (c : Cause) : (raise c s).sw.cause = s.sw.cause ||| c.word := rfl
@[simp] theorem raise_mask (c : Cause) : (raise c s).sw.mask = s.sw.mask := rfl
@[simp] theorem raise_sequence (c : Cause) : (raise c s).sw.sequence = s.sw.sequence := rfl
@[simp] theorem raise_writeState (c : Cause) : (raise c s).sw.state = s.sw.state := rfl
@[simp] theorem reachTime_writes (t : Nat) : (reachTime t s).now = max s.now t := rfl
@[simp] theorem withPending_writes (q : List Instr) : (State.withPending q s).pending = q := rfl
@[simp] theorem setPending_writes (r : ModeRequest) : (setPending r s).modes = { s.modes with pending := r } := rfl
@[simp] theorem releaseSlot_writes (i : Fin 8) :
    (releaseSlot i s).mp = { s.mp with slots := s.mp.slots.set i none } := rfl
@[simp] theorem planResult_writes (r : PlanResult) : (planResult r s).pm = { s.pm with lastResult := r } := rfl
@[simp] theorem standbyResult_writes (r : LoadResult) : (standbyResult r s).ss = { s.ss with lastResult := r } := rfl
@[simp] theorem changeMode_writes (m : DevMode) (p : ModeRequest) (r : ResumeReason) :
    (changeMode m p r s).modes = { s.modes with mode := m, pending := p, resume := r } := rfl

/-- A cause raised under a condition changes the Status Writer alone. -/
theorem raiseIf_eq (p : Bool) (c : Cause) :
    raiseIf p c s = { s with sw := { s.sw with cause := if p then s.sw.cause ||| c.word else s.sw.cause } } := by
  cases p <;> rfl

@[simp] theorem raiseIf_pending (p : Bool) (c : Cause) : (raiseIf p c s).pending = s.pending := by cases p <;> rfl
@[simp] theorem raiseIf_now (p : Bool) (c : Cause) : (raiseIf p c s).now = s.now := by cases p <;> rfl
@[simp] theorem raiseIf_freeDraws (p : Bool) (c : Cause) : (raiseIf p c s).freeDraws = s.freeDraws := by cases p <;> rfl
@[simp] theorem raiseIf_modes (p : Bool) (c : Cause) : (raiseIf p c s).modes = s.modes := by cases p <;> rfl
@[simp] theorem raiseIf_regs (p : Bool) (c : Cause) : (raiseIf p c s).regs = s.regs := by cases p <;> rfl
@[simp] theorem raiseIf_ft (p : Bool) (c : Cause) : (raiseIf p c s).ft = s.ft := by cases p <;> rfl
@[simp] theorem raiseIf_cp (p : Bool) (c : Cause) : (raiseIf p c s).cp = s.cp := by cases p <;> rfl
@[simp] theorem raiseIf_pm (p : Bool) (c : Cause) : (raiseIf p c s).pm = s.pm := by cases p <;> rfl
@[simp] theorem raiseIf_services (p : Bool) (c : Cause) : (raiseIf p c s).services = s.services := by cases p <;> rfl
@[simp] theorem raiseIf_alertSlot (p : Bool) (c : Cause) : (raiseIf p c s).alertSlot = s.alertSlot := by cases p <;> rfl
@[simp] theorem raiseIf_alertAudio (p : Bool) (c : Cause) : (raiseIf p c s).alertAudio = s.alertAudio := by cases p <;> rfl
@[simp] theorem raiseIf_dg (p : Bool) (c : Cause) : (raiseIf p c s).dg = s.dg := by cases p <;> rfl
@[simp] theorem raiseIf_completed (p : Bool) (c : Cause) : (raiseIf p c s).completed = s.completed := by cases p <;> rfl
@[simp] theorem raiseIf_tp (p : Bool) (c : Cause) : (raiseIf p c s).tp = s.tp := by cases p <;> rfl
@[simp] theorem raiseIf_alr (p : Bool) (c : Cause) : (raiseIf p c s).alr = s.alr := by cases p <;> rfl
@[simp] theorem raiseIf_tgp (p : Bool) (c : Cause) : (raiseIf p c s).tgp = s.tgp := by cases p <;> rfl
@[simp] theorem raiseIf_ac (p : Bool) (c : Cause) : (raiseIf p c s).ac = s.ac := by cases p <;> rfl
@[simp] theorem raiseIf_ss (p : Bool) (c : Cause) : (raiseIf p c s).ss = s.ss := by cases p <;> rfl
@[simp] theorem raiseIf_mp (p : Bool) (c : Cause) : (raiseIf p c s).mp = s.mp := by cases p <;> rfl

end Sys2Proof.Machine
end

