-- ==== Sys2Proof/Laws/Ops.lean ====
section
/-! SUPPORT. One lemma for each shared operation of the Memory Port, of the line and of the register port: everything that it can
do. -/

namespace Sys2Proof.Machine

/-! ### Grants -/

/-- What a grant, or several, may change beside the port: the state of CP's poll, and SW's write-back state and status
sequence. -/
def PortFrame (s t : State) : Prop :=
  ∃ mp poll st seq, t = { s with
    mp := mp, cp := { s.cp with poll := poll }, sw := { s.sw with state := st, sequence := seq } }

theorem PortFrame.rfl' (s : State) : PortFrame s s := ⟨s.mp, s.cp.poll, s.sw.state, s.sw.sequence, rfl⟩

theorem PortFrame.trans {s t u : State} (h : PortFrame s t) (k : PortFrame t u) : PortFrame s u := by
  obtain ⟨_, _, _, _, rfl⟩ := h
  obtain ⟨_, _, _, _, rfl⟩ := k
  exact ⟨_, _, _, _, rfl⟩

theorem grantedTo_frame (p : Purpose) (s : State) : PortFrame s (grantedTo p s) := by
  cases p <;> simp only [grantedTo] <;> try exact PortFrame.rfl' s
  · exact ⟨_, _, _, _, rfl⟩
  · split
    · exact ⟨_, _, _, _, rfl⟩
    · exact PortFrame.rfl' s

/-- The port as a grant of the request at a place of the list to a slot leaves it (R187). -/
def MemoryPort.granted (m : MemoryPort) (now : Nat) (i : Fin 8) (k : Nat) (r : Request) : MemoryPort :=
  { m with
    waiting := m.waiting.eraseIdx k
    slots := m.slots.set i (some { request := r, grant := m.grantCounter, grantTime := now, withdrawn := false })
    grantCounter := m.grantCounter + 1 }

/-- A grant does nothing, or it grants the front request to the lowest FREE slot, outside the quiet time (R187). -/
theorem grantOne_cases (s : State) :
    grantOne s = s ∨ ∃ i k r, s.mp.quietEnd = none ∧ s.mp.freeSlot = some i ∧ frontPlace s.mp.waiting = some k
      ∧ s.mp.waiting[k]? = some r ∧ grantOne s = grantedTo r.purpose { s with mp := s.mp.granted s.now i k r } := by
  unfold grantOne
  split
  · next i k hq hi hk =>
    split
    · next r hr => exact Or.inr ⟨i, k, r, hq, hi, hk, hr, rfl⟩
    · exact Or.inl rfl
  · exact Or.inl rfl

theorem grantOne_frame (s : State) : PortFrame s (grantOne s) := by
  rcases grantOne_cases s with h | ⟨i, k, r, -, -, -, -, h⟩ <;> rw [h]
  · exact PortFrame.rfl' s
  · exact PortFrame.trans ⟨_, s.cp.poll, s.sw.state, s.sw.sequence, rfl⟩ (grantedTo_frame _ _)

theorem grantUpTo_frame (n : Nat) (s : State) : PortFrame s (grantUpTo n s) := by
  induction n generalizing s with
  | zero => exact PortFrame.rfl' s
  | succ n ih => exact (grantOne_frame s).trans (ih _)

theorem grantAll_frame (s : State) : PortFrame s (grantAll s) := grantUpTo_frame 8 s

theorem ask_frame (p : Purpose) (d : Option (List Byte)) (a : Addr) (l : Nat) (s : State) : PortFrame s (ask p d a l s) :=
  ⟨_, s.cp.poll, s.sw.state, s.sw.sequence, rfl⟩

theorem enter_frame (p : Purpose) (d : Option (List Byte)) (a : Addr) (l : Nat) (s : State) :
    PortFrame s (enter p d a l s) := by
  unfold enter
  split
  · exact ask_frame p d a l s
  · exact (ask_frame p d a l s).trans (grantAll_frame _)

/-- While an owner takes an outcome, its request enters the list and no slot is granted (R189). -/
theorem enter_completing (p : Purpose) (d : Option (List Byte)) (a : Addr) (l : Nat) (s : State)
    (h : s.mp.completing = true) : enter p d a l s = ask p d a l s := by
  simp [enter, h]

theorem enterRead_frame (p : Purpose) (a : Addr) (l : Nat) (s : State) : PortFrame s (enterRead p a l s) :=
  enter_frame p none a l s

/-! ### The fields that a grant leaves alone -/

theorem PortFrame.pending {s t : State} (h : PortFrame s t) : t.pending = s.pending := by
  obtain ⟨_, _, _, _, rfl⟩ := h; rfl
theorem PortFrame.now {s t : State} (h : PortFrame s t) : t.now = s.now := by
  obtain ⟨_, _, _, _, rfl⟩ := h; rfl
theorem PortFrame.freeDraws {s t : State} (h : PortFrame s t) : t.freeDraws = s.freeDraws := by
  obtain ⟨_, _, _, _, rfl⟩ := h; rfl
theorem PortFrame.modes {s t : State} (h : PortFrame s t) : t.modes = s.modes := by
  obtain ⟨_, _, _, _, rfl⟩ := h; rfl
theorem PortFrame.regs {s t : State} (h : PortFrame s t) : t.regs = s.regs := by
  obtain ⟨_, _, _, _, rfl⟩ := h; rfl
theorem PortFrame.ft {s t : State} (h : PortFrame s t) : t.ft = s.ft := by
  obtain ⟨_, _, _, _, rfl⟩ := h; rfl
theorem PortFrame.pm {s t : State} (h : PortFrame s t) : t.pm = s.pm := by
  obtain ⟨_, _, _, _, rfl⟩ := h; rfl
theorem PortFrame.services {s t : State} (h : PortFrame s t) : t.services = s.services := by
  obtain ⟨_, _, _, _, rfl⟩ := h; rfl
theorem PortFrame.alertSlot {s t : State} (h : PortFrame s t) : t.alertSlot = s.alertSlot := by
  obtain ⟨_, _, _, _, rfl⟩ := h; rfl
theorem PortFrame.alertAudio {s t : State} (h : PortFrame s t) : t.alertAudio = s.alertAudio := by
  obtain ⟨_, _, _, _, rfl⟩ := h; rfl
theorem PortFrame.dg {s t : State} (h : PortFrame s t) : t.dg = s.dg := by
  obtain ⟨_, _, _, _, rfl⟩ := h; rfl
theorem PortFrame.completed {s t : State} (h : PortFrame s t) : t.completed = s.completed := by
  obtain ⟨_, _, _, _, rfl⟩ := h; rfl
theorem PortFrame.tp {s t : State} (h : PortFrame s t) : t.tp = s.tp := by
  obtain ⟨_, _, _, _, rfl⟩ := h; rfl
theorem PortFrame.alr {s t : State} (h : PortFrame s t) : t.alr = s.alr := by
  obtain ⟨_, _, _, _, rfl⟩ := h; rfl
theorem PortFrame.tgp {s t : State} (h : PortFrame s t) : t.tgp = s.tgp := by
  obtain ⟨_, _, _, _, rfl⟩ := h; rfl
theorem PortFrame.ac {s t : State} (h : PortFrame s t) : t.ac = s.ac := by
  obtain ⟨_, _, _, _, rfl⟩ := h; rfl
theorem PortFrame.ss {s t : State} (h : PortFrame s t) : t.ss = s.ss := by
  obtain ⟨_, _, _, _, rfl⟩ := h; rfl
theorem PortFrame.accepted {s t : State} (h : PortFrame s t) : t.cp.accepted = s.cp.accepted := by
  obtain ⟨_, _, _, _, rfl⟩ := h; rfl
theorem PortFrame.seen {s t : State} (h : PortFrame s t) : t.cp.seen = s.cp.seen := by
  obtain ⟨_, _, _, _, rfl⟩ := h; rfl
theorem PortFrame.ignores {s t : State} (h : PortFrame s t) : t.cp.ignores = s.cp.ignores := by
  obtain ⟨_, _, _, _, rfl⟩ := h; rfl
theorem PortFrame.cause {s t : State} (h : PortFrame s t) : t.sw.cause = s.sw.cause := by
  obtain ⟨_, _, _, _, rfl⟩ := h; rfl
theorem PortFrame.mask {s t : State} (h : PortFrame s t) : t.sw.mask = s.sw.mask := by
  obtain ⟨_, _, _, _, rfl⟩ := h; rfl
theorem PortFrame.current {s t : State} (h : PortFrame s t) : t.sw.current = s.sw.current := by
  obtain ⟨_, _, _, _, rfl⟩ := h; rfl
theorem PortFrame.part {s t : State} (h : PortFrame s t) : t.sw.part = s.sw.part := by
  obtain ⟨_, _, _, _, rfl⟩ := h; rfl
theorem PortFrame.held {s t : State} (h : PortFrame s t) : t.sw.held = s.sw.held := by
  obtain ⟨_, _, _, _, rfl⟩ := h; rfl
theorem PortFrame.assembled {s t : State} (h : PortFrame s t) : t.sw.assembled = s.sw.assembled := by
  obtain ⟨_, _, _, _, rfl⟩ := h; rfl
theorem PortFrame.coalesced {s t : State} (h : PortFrame s t) : t.sw.coalesced = s.sw.coalesced := by
  obtain ⟨_, _, _, _, rfl⟩ := h; rfl

@[simp] theorem grantOne_pending (s : State) : (grantOne s).pending = s.pending := (grantOne_frame s).pending
@[simp] theorem grantOne_now (s : State) : (grantOne s).now = s.now := (grantOne_frame s).now
@[simp] theorem grantOne_freeDraws (s : State) : (grantOne s).freeDraws = s.freeDraws := (grantOne_frame s).freeDraws
@[simp] theorem grantOne_modes (s : State) : (grantOne s).modes = s.modes := (grantOne_frame s).modes
@[simp] theorem grantOne_regs (s : State) : (grantOne s).regs = s.regs := (grantOne_frame s).regs
@[simp] theorem grantOne_ft (s : State) : (grantOne s).ft = s.ft := (grantOne_frame s).ft
@[simp] theorem grantOne_pm (s : State) : (grantOne s).pm = s.pm := (grantOne_frame s).pm
@[simp] theorem grantOne_services (s : State) : (grantOne s).services = s.services := (grantOne_frame s).services
@[simp] theorem grantOne_alertSlot (s : State) : (grantOne s).alertSlot = s.alertSlot := (grantOne_frame s).alertSlot
@[simp] theorem grantOne_alertAudio (s : State) : (grantOne s).alertAudio = s.alertAudio := (grantOne_frame s).alertAudio
@[simp] theorem grantOne_dg (s : State) : (grantOne s).dg = s.dg := (grantOne_frame s).dg
@[simp] theorem grantOne_completed (s : State) : (grantOne s).completed = s.completed := (grantOne_frame s).completed
@[simp] theorem grantOne_tp (s : State) : (grantOne s).tp = s.tp := (grantOne_frame s).tp
@[simp] theorem grantOne_alr (s : State) : (grantOne s).alr = s.alr := (grantOne_frame s).alr
@[simp] theorem grantOne_tgp (s : State) : (grantOne s).tgp = s.tgp := (grantOne_frame s).tgp
@[simp] theorem grantOne_ac (s : State) : (grantOne s).ac = s.ac := (grantOne_frame s).ac
@[simp] theorem grantOne_ss (s : State) : (grantOne s).ss = s.ss := (grantOne_frame s).ss
@[simp] theorem grantOne_accepted (s : State) : (grantOne s).cp.accepted = s.cp.accepted := (grantOne_frame s).accepted
@[simp] theorem grantOne_seen (s : State) : (grantOne s).cp.seen = s.cp.seen := (grantOne_frame s).seen
@[simp] theorem grantOne_ignores (s : State) : (grantOne s).cp.ignores = s.cp.ignores := (grantOne_frame s).ignores
@[simp] theorem grantOne_cause (s : State) : (grantOne s).sw.cause = s.sw.cause := (grantOne_frame s).cause
@[simp] theorem grantOne_mask (s : State) : (grantOne s).sw.mask = s.sw.mask := (grantOne_frame s).mask
@[simp] theorem grantOne_current (s : State) : (grantOne s).sw.current = s.sw.current := (grantOne_frame s).current
@[simp] theorem grantOne_part (s : State) : (grantOne s).sw.part = s.sw.part := (grantOne_frame s).part
@[simp] theorem grantOne_held (s : State) : (grantOne s).sw.held = s.sw.held := (grantOne_frame s).held
@[simp] theorem grantOne_assembled (s : State) : (grantOne s).sw.assembled = s.sw.assembled := (grantOne_frame s).assembled
@[simp] theorem grantOne_coalesced (s : State) : (grantOne s).sw.coalesced = s.sw.coalesced := (grantOne_frame s).coalesced

@[simp] theorem grantAll_pending (s : State) : (grantAll s).pending = s.pending := (grantAll_frame s).pending
@[simp] theorem grantAll_now (s : State) : (grantAll s).now = s.now := (grantAll_frame s).now
@[simp] theorem grantAll_freeDraws (s : State) : (grantAll s).freeDraws = s.freeDraws := (grantAll_frame s).freeDraws
@[simp] theorem grantAll_modes (s : State) : (grantAll s).modes = s.modes := (grantAll_frame s).modes
@[simp] theorem grantAll_regs (s : State) : (grantAll s).regs = s.regs := (grantAll_frame s).regs
@[simp] theorem grantAll_ft (s : State) : (grantAll s).ft = s.ft := (grantAll_frame s).ft
@[simp] theorem grantAll_pm (s : State) : (grantAll s).pm = s.pm := (grantAll_frame s).pm
@[simp] theorem grantAll_services (s : State) : (grantAll s).services = s.services := (grantAll_frame s).services
@[simp] theorem grantAll_alertSlot (s : State) : (grantAll s).alertSlot = s.alertSlot := (grantAll_frame s).alertSlot
@[simp] theorem grantAll_alertAudio (s : State) : (grantAll s).alertAudio = s.alertAudio := (grantAll_frame s).alertAudio
@[simp] theorem grantAll_dg (s : State) : (grantAll s).dg = s.dg := (grantAll_frame s).dg
@[simp] theorem grantAll_completed (s : State) : (grantAll s).completed = s.completed := (grantAll_frame s).completed
@[simp] theorem grantAll_tp (s : State) : (grantAll s).tp = s.tp := (grantAll_frame s).tp
@[simp] theorem grantAll_alr (s : State) : (grantAll s).alr = s.alr := (grantAll_frame s).alr
@[simp] theorem grantAll_tgp (s : State) : (grantAll s).tgp = s.tgp := (grantAll_frame s).tgp
@[simp] theorem grantAll_ac (s : State) : (grantAll s).ac = s.ac := (grantAll_frame s).ac
@[simp] theorem grantAll_ss (s : State) : (grantAll s).ss = s.ss := (grantAll_frame s).ss
@[simp] theorem grantAll_accepted (s : State) : (grantAll s).cp.accepted = s.cp.accepted := (grantAll_frame s).accepted
@[simp] theorem grantAll_seen (s : State) : (grantAll s).cp.seen = s.cp.seen := (grantAll_frame s).seen
@[simp] theorem grantAll_ignores (s : State) : (grantAll s).cp.ignores = s.cp.ignores := (grantAll_frame s).ignores
@[simp] theorem grantAll_cause (s : State) : (grantAll s).sw.cause = s.sw.cause := (grantAll_frame s).cause
@[simp] theorem grantAll_mask (s : State) : (grantAll s).sw.mask = s.sw.mask := (grantAll_frame s).mask
@[simp] theorem grantAll_current (s : State) : (grantAll s).sw.current = s.sw.current := (grantAll_frame s).current
@[simp] theorem grantAll_part (s : State) : (grantAll s).sw.part = s.sw.part := (grantAll_frame s).part
@[simp] theorem grantAll_held (s : State) : (grantAll s).sw.held = s.sw.held := (grantAll_frame s).held
@[simp] theorem grantAll_assembled (s : State) : (grantAll s).sw.assembled = s.sw.assembled := (grantAll_frame s).assembled
@[simp] theorem grantAll_coalesced (s : State) : (grantAll s).sw.coalesced = s.sw.coalesced := (grantAll_frame s).coalesced

@[simp] theorem enter_pending (p : Purpose) (d : Option (List Byte)) (a : Addr) (l : Nat) (s : State) : (enter p d a l s).pending = s.pending := (enter_frame p d a l s).pending
@[simp] theorem enter_now (p : Purpose) (d : Option (List Byte)) (a : Addr) (l : Nat) (s : State) : (enter p d a l s).now = s.now := (enter_frame p d a l s).now
@[simp] theorem enter_freeDraws (p : Purpose) (d : Option (List Byte)) (a : Addr) (l : Nat) (s : State) : (enter p d a l s).freeDraws = s.freeDraws := (enter_frame p d a l s).freeDraws
@[simp] theorem enter_modes (p : Purpose) (d : Option (List Byte)) (a : Addr) (l : Nat) (s : State) : (enter p d a l s).modes = s.modes := (enter_frame p d a l s).modes
@[simp] theorem enter_regs (p : Purpose) (d : Option (List Byte)) (a : Addr) (l : Nat) (s : State) : (enter p d a l s).regs = s.regs := (enter_frame p d a l s).regs
@[simp] theorem enter_ft (p : Purpose) (d : Option (List Byte)) (a : Addr) (l : Nat) (s : State) : (enter p d a l s).ft = s.ft := (enter_frame p d a l s).ft
@[simp] theorem enter_pm (p : Purpose) (d : Option (List Byte)) (a : Addr) (l : Nat) (s : State) : (enter p d a l s).pm = s.pm := (enter_frame p d a l s).pm
@[simp] theorem enter_services (p : Purpose) (d : Option (List Byte)) (a : Addr) (l : Nat) (s : State) : (enter p d a l s).services = s.services := (enter_frame p d a l s).services
@[simp] theorem enter_alertSlot (p : Purpose) (d : Option (List Byte)) (a : Addr) (l : Nat) (s : State) : (enter p d a l s).alertSlot = s.alertSlot := (enter_frame p d a l s).alertSlot
@[simp] theorem enter_alertAudio (p : Purpose) (d : Option (List Byte)) (a : Addr) (l : Nat) (s : State) : (enter p d a l s).alertAudio = s.alertAudio := (enter_frame p d a l s).alertAudio
@[simp] theorem enter_dg (p : Purpose) (d : Option (List Byte)) (a : Addr) (l : Nat) (s : State) : (enter p d a l s).dg = s.dg := (enter_frame p d a l s).dg
@[simp] theorem enter_completed (p : Purpose) (d : Option (List Byte)) (a : Addr) (l : Nat) (s : State) : (enter p d a l s).completed = s.completed := (enter_frame p d a l s).completed
@[simp] theorem enter_tp (p : Purpose) (d : Option (List Byte)) (a : Addr) (l : Nat) (s : State) : (enter p d a l s).tp = s.tp := (enter_frame p d a l s).tp
@[simp] theorem enter_alr (p : Purpose) (d : Option (List Byte)) (a : Addr) (l : Nat) (s : State) : (enter p d a l s).alr = s.alr := (enter_frame p d a l s).alr
@[simp] theorem enter_tgp (p : Purpose) (d : Option (List Byte)) (a : Addr) (l : Nat) (s : State) : (enter p d a l s).tgp = s.tgp := (enter_frame p d a l s).tgp
@[simp] theorem enter_ac (p : Purpose) (d : Option (List Byte)) (a : Addr) (l : Nat) (s : State) : (enter p d a l s).ac = s.ac := (enter_frame p d a l s).ac
@[simp] theorem enter_ss (p : Purpose) (d : Option (List Byte)) (a : Addr) (l : Nat) (s : State) : (enter p d a l s).ss = s.ss := (enter_frame p d a l s).ss
@[simp] theorem enter_accepted (p : Purpose) (d : Option (List Byte)) (a : Addr) (l : Nat) (s : State) : (enter p d a l s).cp.accepted = s.cp.accepted := (enter_frame p d a l s).accepted
@[simp] theorem enter_seen (p : Purpose) (d : Option (List Byte)) (a : Addr) (l : Nat) (s : State) : (enter p d a l s).cp.seen = s.cp.seen := (enter_frame p d a l s).seen
@[simp] theorem enter_ignores (p : Purpose) (d : Option (List Byte)) (a : Addr) (l : Nat) (s : State) : (enter p d a l s).cp.ignores = s.cp.ignores := (enter_frame p d a l s).ignores
@[simp] theorem enter_cause (p : Purpose) (d : Option (List Byte)) (a : Addr) (l : Nat) (s : State) : (enter p d a l s).sw.cause = s.sw.cause := (enter_frame p d a l s).cause
@[simp] theorem enter_mask (p : Purpose) (d : Option (List Byte)) (a : Addr) (l : Nat) (s : State) : (enter p d a l s).sw.mask = s.sw.mask := (enter_frame p d a l s).mask
@[simp] theorem enter_current (p : Purpose) (d : Option (List Byte)) (a : Addr) (l : Nat) (s : State) : (enter p d a l s).sw.current = s.sw.current := (enter_frame p d a l s).current
@[simp] theorem enter_part (p : Purpose) (d : Option (List Byte)) (a : Addr) (l : Nat) (s : State) : (enter p d a l s).sw.part = s.sw.part := (enter_frame p d a l s).part
@[simp] theorem enter_held (p : Purpose) (d : Option (List Byte)) (a : Addr) (l : Nat) (s : State) : (enter p d a l s).sw.held = s.sw.held := (enter_frame p d a l s).held
@[simp] theorem enter_assembled (p : Purpose) (d : Option (List Byte)) (a : Addr) (l : Nat) (s : State) : (enter p d a l s).sw.assembled = s.sw.assembled := (enter_frame p d a l s).assembled
@[simp] theorem enter_coalesced (p : Purpose) (d : Option (List Byte)) (a : Addr) (l : Nat) (s : State) : (enter p d a l s).sw.coalesced = s.sw.coalesced := (enter_frame p d a l s).coalesced

@[simp] theorem enterRead_pending (p : Purpose) (a : Addr) (l : Nat) (s : State) : (enterRead p a l s).pending = s.pending := (enterRead_frame p a l s).pending
@[simp] theorem enterRead_now (p : Purpose) (a : Addr) (l : Nat) (s : State) : (enterRead p a l s).now = s.now := (enterRead_frame p a l s).now
@[simp] theorem enterRead_freeDraws (p : Purpose) (a : Addr) (l : Nat) (s : State) : (enterRead p a l s).freeDraws = s.freeDraws := (enterRead_frame p a l s).freeDraws
@[simp] theorem enterRead_modes (p : Purpose) (a : Addr) (l : Nat) (s : State) : (enterRead p a l s).modes = s.modes := (enterRead_frame p a l s).modes
@[simp] theorem enterRead_regs (p : Purpose) (a : Addr) (l : Nat) (s : State) : (enterRead p a l s).regs = s.regs := (enterRead_frame p a l s).regs
@[simp] theorem enterRead_ft (p : Purpose) (a : Addr) (l : Nat) (s : State) : (enterRead p a l s).ft = s.ft := (enterRead_frame p a l s).ft
@[simp] theorem enterRead_pm (p : Purpose) (a : Addr) (l : Nat) (s : State) : (enterRead p a l s).pm = s.pm := (enterRead_frame p a l s).pm
@[simp] theorem enterRead_services (p : Purpose) (a : Addr) (l : Nat) (s : State) : (enterRead p a l s).services = s.services := (enterRead_frame p a l s).services
@[simp] theorem enterRead_alertSlot (p : Purpose) (a : Addr) (l : Nat) (s : State) : (enterRead p a l s).alertSlot = s.alertSlot := (enterRead_frame p a l s).alertSlot
@[simp] theorem enterRead_alertAudio (p : Purpose) (a : Addr) (l : Nat) (s : State) : (enterRead p a l s).alertAudio = s.alertAudio := (enterRead_frame p a l s).alertAudio
@[simp] theorem enterRead_dg (p : Purpose) (a : Addr) (l : Nat) (s : State) : (enterRead p a l s).dg = s.dg := (enterRead_frame p a l s).dg
@[simp] theorem enterRead_completed (p : Purpose) (a : Addr) (l : Nat) (s : State) : (enterRead p a l s).completed = s.completed := (enterRead_frame p a l s).completed
@[simp] theorem enterRead_tp (p : Purpose) (a : Addr) (l : Nat) (s : State) : (enterRead p a l s).tp = s.tp := (enterRead_frame p a l s).tp
@[simp] theorem enterRead_alr (p : Purpose) (a : Addr) (l : Nat) (s : State) : (enterRead p a l s).alr = s.alr := (enterRead_frame p a l s).alr
@[simp] theorem enterRead_tgp (p : Purpose) (a : Addr) (l : Nat) (s : State) : (enterRead p a l s).tgp = s.tgp := (enterRead_frame p a l s).tgp
@[simp] theorem enterRead_ac (p : Purpose) (a : Addr) (l : Nat) (s : State) : (enterRead p a l s).ac = s.ac := (enterRead_frame p a l s).ac
@[simp] theorem enterRead_ss (p : Purpose) (a : Addr) (l : Nat) (s : State) : (enterRead p a l s).ss = s.ss := (enterRead_frame p a l s).ss
@[simp] theorem enterRead_accepted (p : Purpose) (a : Addr) (l : Nat) (s : State) : (enterRead p a l s).cp.accepted = s.cp.accepted := (enterRead_frame p a l s).accepted
@[simp] theorem enterRead_seen (p : Purpose) (a : Addr) (l : Nat) (s : State) : (enterRead p a l s).cp.seen = s.cp.seen := (enterRead_frame p a l s).seen
@[simp] theorem enterRead_ignores (p : Purpose) (a : Addr) (l : Nat) (s : State) : (enterRead p a l s).cp.ignores = s.cp.ignores := (enterRead_frame p a l s).ignores
@[simp] theorem enterRead_cause (p : Purpose) (a : Addr) (l : Nat) (s : State) : (enterRead p a l s).sw.cause = s.sw.cause := (enterRead_frame p a l s).cause
@[simp] theorem enterRead_mask (p : Purpose) (a : Addr) (l : Nat) (s : State) : (enterRead p a l s).sw.mask = s.sw.mask := (enterRead_frame p a l s).mask
@[simp] theorem enterRead_current (p : Purpose) (a : Addr) (l : Nat) (s : State) : (enterRead p a l s).sw.current = s.sw.current := (enterRead_frame p a l s).current
@[simp] theorem enterRead_part (p : Purpose) (a : Addr) (l : Nat) (s : State) : (enterRead p a l s).sw.part = s.sw.part := (enterRead_frame p a l s).part
@[simp] theorem enterRead_held (p : Purpose) (a : Addr) (l : Nat) (s : State) : (enterRead p a l s).sw.held = s.sw.held := (enterRead_frame p a l s).held
@[simp] theorem enterRead_assembled (p : Purpose) (a : Addr) (l : Nat) (s : State) : (enterRead p a l s).sw.assembled = s.sw.assembled := (enterRead_frame p a l s).assembled
@[simp] theorem enterRead_coalesced (p : Purpose) (a : Addr) (l : Nat) (s : State) : (enterRead p a l s).sw.coalesced = s.sw.coalesced := (enterRead_frame p a l s).coalesced

/-! ### What grants do to the port -/

/-- Where the requests of a port come from: a change of the port brings in no request, and every transfer it puts on the
bus is not withdrawn. -/
structure PortFrom (m m' : MemoryPort) : Prop where
  waiting : ∀ r ∈ m'.waiting, r ∈ m.waiting
  slots   : ∀ f, some f ∈ m'.slots.toList → some f ∈ m.slots.toList ∨ (f.withdrawn = false ∧ f.request ∈ m.waiting)

theorem PortFrom.refl (m : MemoryPort) : PortFrom m m := ⟨fun _ h => h, fun _ h => Or.inl h⟩

theorem PortFrom.trans {a b c : MemoryPort} (h : PortFrom a b) (k : PortFrom b c) : PortFrom a c where
  waiting := fun r hr => h.waiting r (k.waiting r hr)
  slots := fun f hf => by
    rcases k.slots f hf with hb | ⟨hw, hb⟩
    · exact h.slots f hb
    · exact Or.inr ⟨hw, h.waiting _ hb⟩

@[simp] theorem grantedTo_mp (p : Purpose) (s : State) : (grantedTo p s).mp = s.mp := by
  unfold grantedTo
  split
  · rfl
  · split <;> rfl
  · rfl

theorem granted_from (m : MemoryPort) (now : Nat) (i : Fin 8) (k : Nat) (r : Request) (h : m.waiting[k]? = some r) :
    PortFrom m (m.granted now i k r) where
  waiting := fun x hx => List.mem_of_mem_eraseIdx hx
  slots := fun f hf => by
    simp only [MemoryPort.granted, Vector.toList_set] at hf
    rcases List.mem_or_eq_of_mem_set hf with hf | hf
    · exact Or.inl hf
    · cases hf
      exact Or.inr ⟨rfl, List.mem_of_getElem? h⟩

theorem grantOne_from (s : State) : PortFrom s.mp (grantOne s).mp := by
  rcases grantOne_cases s with h | ⟨i, k, r, -, -, -, hr, h⟩ <;> rw [h]
  · exact PortFrom.refl _
  · rw [grantedTo_mp]; exact granted_from s.mp s.now i k r hr

theorem grantUpTo_from (n : Nat) (s : State) : PortFrom s.mp (grantUpTo n s).mp := by
  induction n generalizing s with
  | zero => exact PortFrom.refl _
  | succ n ih => exact (grantOne_from s).trans (ih _)

/-- A request that enters is the one new request of the port (R185). -/
theorem enter_from (p : Purpose) (d : Option (List Byte)) (a : Addr) (l : Nat) (s : State) :
    PortFrom (ask p d a l s).mp (enter p d a l s).mp := by
  unfold enter
  split
  · exact PortFrom.refl _
  · exact grantUpTo_from 8 _

/-- A withdrawal drops the waiting requests of its purposes, and marks those on the bus (R192). -/
theorem withdraw_mp (p : Purpose → Bool) (s : State) :
    (withdraw p s).mp.waiting = s.mp.waiting.filter (fun r => !p r.purpose) ∧
      ∀ f, some f ∈ (withdraw p s).mp.slots.toList → p f.request.purpose = true → f.withdrawn = true := by
  refine ⟨rfl, fun f hf hp => ?_⟩
  simp only [withdraw, Vector.toList_map, List.mem_map] at hf
  obtain ⟨o, -, ho⟩ := hf
  cases o with
  | none => cases ho
  | some g =>
    simp only [Option.map_some, Option.some.injEq] at ho
    subst ho
    split at hp <;> split <;> simp_all

/-! ### The line -/

/-- An entry that completes is stored at the back, or lost: and then counted, with LINK raised (R153, R154). -/
theorem storeEntry_cases (e : FifoEntry) (s : State) :
    (s.alr.fifo.length < 32 ∧ storeEntry e s = { s with alr := { s.alr with
        fifo := s.alr.fifo ++ [{ e with overrunBefore := s.alr.overrun }], overrun := false } }) ∨
    (32 ≤ s.alr.fifo.length ∧ storeEntry e s = raise .link { s with alr := { s.alr with
        lost := satInc Config.max32 s.alr.lost, overrun := true } }) := by
  unfold storeEntry Config.fifoDepth
  split
  · next h => exact Or.inl ⟨h, rfl⟩
  · next h => exact Or.inr ⟨Nat.le_of_not_lt h, rfl⟩

/-- A saturating count goes up by one, or stands at its highest value. -/
theorem satInc_le (m n : Nat) (_ : n ≤ m) : satInc m n ≤ m := by
  unfold satInc; split <;> omega

/-- The bytes that a response delivers are as many as the burst has (R183). -/
theorem deliver_length (draw n : Nat) (b : List Byte) : (deliver draw n b).length = n := by
  simp only [deliver, List.length_append, List.length_take, List.length_map, List.length_range]; omega

/-- A response that carries the whole burst is delivered as it is (R183). -/
theorem deliver_full (draw : Nat) (b : List Byte) : deliver draw b.length b = b := by
  simp [deliver]

/-- An IDLE marker completes (R152): what the line and CAUSE hold after it; the level last sampled stays as it was. -/
theorem completeIdleMarker_cases (s : State) :
    completeIdleMarker s = { s with alr := { s.alr with
        fifo := s.alr.fifo ++ [{ idleMarkerEntry with overrunBefore := s.alr.overrun }], overrun := false
        idleCount := 320, armed := false } } ∧ s.alr.fifo.length < 32 ∨
    completeIdleMarker s = { s with
        alr := { s.alr with lost := satInc 4294967295 s.alr.lost, overrun := true, idleCount := 320, armed := false }
        sw := { s.sw with cause := s.sw.cause ||| Cause.link.word } } ∧ 32 ≤ s.alr.fifo.length := by
  unfold completeIdleMarker storeEntry
  split
  · exact .inl ⟨rfl, ‹_›⟩
  · exact .inr ⟨rfl, Nat.le_of_not_lt ‹_›⟩

/-- Samples counted in HUNT (R152): none while the marker is not armed; else the idle count goes up, or the marker completes. -/
theorem countIdle_cases (n : Nat) (s : State) :
    s.alr.armed = false ∧ countIdle n s = s ∨
    s.alr.armed = true ∧ s.alr.idleCount + n < 320 ∧
      countIdle n s = { s with alr := { s.alr with idleCount := s.alr.idleCount + n } } ∨
    s.alr.armed = true ∧ 320 ≤ s.alr.idleCount + n ∧ countIdle n s = completeIdleMarker s := by
  unfold countIdle idleLimit
  split
  · next h =>
    split
    · next k => exact .inr (.inr ⟨h, k, rfl⟩)
    · next k => exact .inr (.inl ⟨h, Nat.lt_of_not_le k, rfl⟩)
  · next h => exact .inl ⟨by simpa using h, rfl⟩

/-! ### The register port (12.2) -/

/-- Each register lies at its own offset. -/
@[simp] theorem registerAt_offset (r : PortRegister) : registerAt r.offset = some r := by cases r <;> rfl

/-- A write at a register's offset makes the register's commands. -/
@[simp] theorem portWrite_offset (r : PortRegister) (w : BitVec 32) : portWrite r.offset w = r.commands w := by
  simp [portWrite]

/-- A read at a register's offset reads the register. -/
@[simp] theorem portRead_offset (r : PortRegister) (s : State) : portRead r.offset s = readRegister r s := by
  simp [portRead]

/-- A read puts the register's word on the port; CAUSE's clears CAUSE, and no other changes anything more (R32). -/
theorem readRegister_eq (r : PortRegister) (s : State) :
    readRegister r s = { s with
      regs := { s.regs with readData := r.word s }
      sw := { s.sw with cause := if r = .cause then 0 else s.sw.cause } } := by
  unfold readRegister
  split <;> simp [*]

end Sys2Proof.Machine
end

