-- ==== Sys2Proof/Laws/Port.lean ====
section
/-! SUPPORT. The end of a transfer that a purpose names: what the port does before and after its owner takes the outcome. -/

namespace Sys2Proof.Machine

/-- An owner takes an outcome: its requests enter the list and no slot is granted meanwhile (R189). -/
def whileTaking (f : State → State) (s : State) : State :=
  let t := f { s with mp := { s.mp with completing := true } }
  { t with mp := { t.mp with completing := false } }

theorem slotOf_some {m : MemoryPort} {p : Purpose} {i : Fin 8} (h : m.slotOf p = some i) :
    ∃ f, m.slots[i] = some f ∧ f.withdrawn = false ∧ f.request.purpose = p := by
  have hi := List.find?_some h
  cases hs : m.slots[i] with
  | none => simp [hs] at hi
  | some f => exact ⟨f, rfl, by simpa [hs] using hi⟩

/-- A READ that ends with DATA: the slot is FREE, and the owner takes the bytes (R183, R189). -/
theorem completePurpose_data {p : Purpose} {i : Fin 8} {bytes : List Byte} {s : State} (h : Reading p i bytes.length s) :
    completePurpose p (.data bytes) s = whileTaking (ownerTakes p (.data bytes)) (releaseSlot i s) := by
  obtain ⟨f, hf, hw, rfl⟩ := slotOf_some h.slot
  obtain ⟨hd, hl⟩ := h.read f hf
  simp only [completePurpose, h.slot, completeSlot, hf, hw, handOutcome, deliveredOutcome, isShort, countEnd, hd, hl,
    deliver_full, whileTaking]
  simp

/-- A transfer that ends with ERROR: the slot is FREE, the fault is counted with FAULT raised, and the owner takes the
outcome (R189, R191). -/
theorem completePurpose_error {p : Purpose} {i : Fin 8} {s : State} (h : s.mp.slotOf p = some i) :
    completePurpose p .error s = whileTaking (ownerTakes p .error) (countEnd .error (releaseSlot i s)) := by
  obtain ⟨f, hf, hw, rfl⟩ := slotOf_some h
  simp only [completePurpose, h, completeSlot, hf, hw, handOutcome, deliveredOutcome, isShort, whileTaking]
  simp

/-- A transfer that times out, 4 ms after its grant: the slot is FREE, the timeout is counted with FAULT raised, and the
owner takes the outcome (R190, R191). -/
theorem completePurpose_timeout {p : Purpose} {i : Fin 8} {f : InFlight} {s : State} (h : s.mp.slotOf p = some i)
    (hf : s.mp.slots[i] = some f) :
    completePurpose p .timeout s =
      whileTaking (ownerTakes p .timeout) (countEnd .timeout (releaseSlot i (reachTime (f.grantTime + ms 4) s))) := by
  obtain ⟨g, hg, hw, rfl⟩ := slotOf_some h
  rw [hf] at hg; cases hg
  simp only [completePurpose, h, completeSlot, hf, hw, handOutcome, deliveredOutcome, isShort, whileTaking]
  simp

/-- A WRITE that ends with DATA: the slot is FREE, and the owner takes the outcome (R183, R189). -/
theorem completePurpose_write {p : Purpose} {i : Fin 8} {bytes : List Byte} {s : State} (h : Writing p i s) :
    completePurpose p (.data bytes) s = whileTaking (ownerTakes p (.data [])) (releaseSlot i s) := by
  obtain ⟨f, hf, hw, rfl⟩ := slotOf_some h.slot
  have hd := h.write f hf
  have hn : f.request.data.isNone = false := by cases hr : f.request.data <;> simp_all
  simp only [completePurpose, h.slot, completeSlot, hf, hw, handOutcome, deliveredOutcome, isShort, countEnd, hd, hn,
    whileTaking]
  simp

end Sys2Proof.Machine
end

