-- ==== Sys2Proof/Laws/Services.lean ====
section
/-! SUPPORT. What the operations on the state kept for services can do: the reset state of a service, the carry-over, and the outcome
of a slot. -/

namespace Sys2Proof.Machine

/-- A service begins with the reset state of every block (R58, R79, R100, R119). -/
theorem Service.fresh_eq (e : PlanEntry) (before : U32) : Service.fresh e before = serviceAtReset e before := rfl

/-- A matched service is carried over as R55, R56 and R96 give. -/
theorem Service.carried_carriedOver (old new : PlanEntry) (v : Service) : CarriedOver old new v (v.carried old new) where
  sameRing h := by
    refine ⟨?_, ?_, ?_⟩
    · simp [Service.carried, Contribution.carried, h]
    · intro hb; simp [Service.carried, Contribution.carried, h, hb]
    · intro b hb; simp only [Service.carried, Contribution.carried, h, hb, lengthMax, if_true]; rfl
  newRing h := by simp [Service.carried, Contribution.carried, h]
  slot := rfl
  picture := rfl
  label := rfl
  ownMode h := by simp [Service.carried, Annex.carried, h]
  alertMode h := by simp [Service.carried, Annex.carried, h]

/-- The service of a new entry keeps the entry's service id (R54). -/
theorem carryService_sid (old : List PlanEntry) (services : List Service) (before : U32) (e : PlanEntry) :
    (carryService old services before e).sid = e.sid := by
  unfold carryService
  split
  · next v _ hv =>
    split
    · rfl
    · have : (v.sid == e.sid) = true := List.find?_some (p := fun x : Service => x.sid == e.sid) hv
      exact beq_iff_eq.mp this
  · rfl

/-- A slot is GOOD with audio only from a header held with SILENT clear, and the audio is at most its length (R67, R69). -/
theorem SlotRead.result_good {r : SlotRead} {h : SlotHeader} {bytes : List Byte} (hr : r.result = .good h bytes) :
    r.phase = .good ∧ r.held = some h ∧ h.silent = false ∧ bytes = r.buffer.take h.len := by
  unfold SlotRead.result at hr
  split at hr
  · next h' hp hh =>
    split at hr
    · cases hr
    · next hs => cases hr; exact ⟨hp, hh, by simpa using hs, rfl⟩
  all_goals first
    | cases hr
    | (split at hr <;> cases hr)

/-- A field placed inside a run of bytes leaves the run's length. -/
theorem placeAt_length {bytes part : List Byte} {off : Nat} (h : off + part.length ≤ bytes.length) :
    (placeAt bytes off part).length = bytes.length := by
  simp only [placeAt, List.length_append, List.length_take, List.length_drop]
  omega

end Sys2Proof.Machine
end

