-- ==== Sys2Proof/Tests/Slice0.lean ====
section
/-! SUPPORT. Tests. The checks of WellFormed each refuse an ill-formed command; the worked figures of the spec come out of the
operations; a few commands do on small states what their rules say; and every statement's hypotheses are met by a concrete
state. -/

set_option maxRecDepth 10000

namespace Sys2Proof.Tests

open Sys2Proof Sys2Proof.Machine

/-! ### Well-formedness: an ill-formed command for each check -/

theorem test_wf_soft_reset_without_its_bit : (Instr.softReset 0x0FF#32).wellFormed = false := by decide
theorem test_wf_more_bytes_than_a_frame : (Instr.txReadyChange true 19346).wellFormed = false := by decide
theorem test_wf_transfer_over_a_burst :
    (Instr.rootReadDone (.data (List.replicate 257 0))).wellFormed = false := by
  simp only [Instr.wellFormed, TransferOutcome.wellFormed, List.length_replicate]; decide
theorem test_wf_response_over_a_burst :
    (Instr.transferResponse 0 0 (.data (List.replicate 257 0))).wellFormed = false := by
  simp only [Instr.wellFormed, BusOutcome.wellFormed, List.length_replicate]; decide
theorem test_wf_whole_burst : (Instr.refillDataDone 1 (.data (List.replicate 256 0))).wellFormed = true := by
  simp only [Instr.wellFormed, TransferOutcome.wellFormed, List.length_replicate]; decide
theorem test_no_word_spells_a_command : decodeTableWord 32 0 = none := rfl

/-! ### States to test on -/

/-- The state that a command answers with. -/
def after (c : Instr) (s : State) : State :=
  match exec c s with
  | .next t => t
  | .fault _ => s
  | .refused _ => s

/-- The reset state with its quiet time over. -/
def quietOver : State := { State.reset with mp := { State.reset.mp with quietEnd := none } }

/-- An entry of 12 cells with a label record and a picture list. -/
def entryA : PlanEntry :=
  { subId := 1, cells := 12, start := 0, sid := 0x0301, mask := 0x01, restart := false, ringBase := 0x10000
    ringDepth := 8, labelQuantum := 328, pictureQuantum := 640, labelAddr := 0x30000, pictureAddr := 0x40000
    name := List.replicate 16 0x41 }

/-- A neighbour of entryA, with neither label nor picture. -/
def entryB : PlanEntry :=
  { entryA with subId := 2, start := 12, sid := 0x0302, mask := 0x02, ringBase := 0x20000, labelAddr := 0, pictureAddr := 0 }

/-- A plan of the two. -/
def plan7 : Plan := { number := 7, entries := [entryA, entryB], addr := 0x2000 }

/-- The services of plan7 before their first frame. -/
def serviceA : Service := { Service.fresh entryA 0 with slot := some .fresh }
def serviceB : Service := { Service.fresh entryB 0 with slot := some .fresh }

/-- The root control area as plan7's host wrote it: rate 9,600 baud, area code 0x0310. -/
def rootBytes : List Byte :=
  rootSignature ++ zeros 4 ++ be 5 0x2000 ++ zeros 43 ++ [2, 0] ++ be 2 0x0310 ++ zeros 68

/-- The values that area gives. -/
def rootTaken : RootValues := rootValues rootBytes

/-- The device in a mode, its Frame Timer timing from 0 under INTERNAL. -/
def inMode (m : DevMode) (stage : StartStage) : State :=
  { quietOver with
    modes := { mode := m, pending := .none, startResult := .ok, resume := .none, stage := stage }
    regs := { quietOver.regs with rootLo := 0x1000 }
    ft := { quietOver.ft with timingFrom := some 0, lastStart := some 0 } }

/-- RUNNING with plan7. -/
def running : State :=
  { inMode .running .idle with
    cp := { State.reset.cp with accepted := some rootTaken, seen := some { plan := 0, cell := 0, standby := 0 } }
    pm := { State.reset.pm with active := .ready plan7, nextNumber := 7 }
    services := [serviceA, serviceB]
    tp := { State.reset.tp with state := .sent, ready := true } }

/-- The Frame Timer in another state, under EXTERNAL. -/
def external (st : TimerState) (s : State) : State :=
  { s with
    regs := { s.regs with source := FrameSource.external }
    ft := { s.ft with source := FrameSource.external, state := st } }

/-- The cut-off of the assembly period made, and a STOP waiting or not. -/
def cutMade (pending : ModeRequest) (s : State) : State :=
  { s with
    ft := { s.ft with cutOffMade := true }
    modes := { s.modes with pending := pending } }

/-- A frame in emission. -/
def emitting (s : State) : State := { s with tp := { s.tp with state := .emitting, ready := true } }

/-- A request in flight in slot 0 with grant number 5. -/
def flight (p : Purpose) (data : Option (List Byte)) (len : Nat) (gone : Bool) : InFlight :=
  { request := { purpose := p, cls := p.cls, data := data, addr := 0, len := len, entry := 0 }
    grant := 5, grantTime := 1000, withdrawn := gone }

/-- The transfer of a purpose on the bus, alone, in slot 0. -/
def onBus (p : Purpose) (data : Option (List Byte)) (len : Nat) (s : State) : State :=
  { s with mp := { quietOver.mp with slots := (Vector.replicate 8 none).set 0 (some (flight p data len false)) } }

theorem onBus_slotOf (p : Purpose) (data : Option (List Byte)) (len : Nat) (s : State) :
    (onBus p data len s).mp.slotOf p = some 0 := by
  simp [MemoryPort.slotOf, onBus, flight, List.finRange_succ]

theorem onBus_slot (p : Purpose) (data : Option (List Byte)) (len : Nat) (s : State) :
    (onBus p data len s).mp.slots[0] = some (flight p data len false) := rfl

theorem reading_onBus (p : Purpose) (len : Nat) (s : State) : Reading p 0 len (onBus p none len s) where
  slot := onBus_slotOf p none len s
  read f h := by cases (onBus_slot p none len s).symm.trans h; exact ⟨rfl, rfl⟩
  between := rfl

theorem writing_onBus (p : Purpose) (data : List Byte) (len : Nat) (s : State) :
    Writing p 0 (onBus p (some data) len s) where
  slot := onBus_slotOf p (some data) len s
  write f h := by cases (onBus_slot p (some data) len s).symm.trans h; rfl
  between := rfl

theorem plan7_sound : PlanSound plan7 :=
  ⟨by decide, by decide, by decide, by decide, by decide, by decide, by decide⟩

/-! ### Worked figures of the spec -/

/-- R2's check value, over the characters "123456789", and over no bytes. -/
theorem test_crc_check_value :
    crc16 [0x31, 0x32, 0x33, 0x34, 0x35, 0x36, 0x37, 0x38, 0x39] = 0xD64E#16 ∧ crc16 [] = 0 := by decide

/-- R12, and the worked sequence of 1.2: no edge gives 48 ms, an edge at 38 ms 47, one just before 24 ms 49. -/
theorem test_holdover_periods :
    [none, some 0, some 23999, some 24000, some 38000, some 43999].map nextPeriod = [48, 49, 49, 47, 47, 47] := by decide

/-- The table of R166, and the seconds shown of 10.6 (208 frames are 9 seconds). -/
theorem test_durations :
    [0, 3, 45, 60, 7200].map durationFrames = [75000, 209, 938, 1250, 75000] ∧ remainingSeconds 208 = 9 := by decide

/-- The label of the worked cycle of 6.4: head "K7 ", body "TRAFFIC CLEAR ON RING ROAD", W = 16, G = 2, S = 4. -/
def roadLabel : LabelParams :=
  normaliseLabel 16 3 26 0 2 4 2 2 true false
    [0x4B, 0x37, 0x20, 0x54, 0x52, 0x41, 0x46, 0x46, 0x49, 0x43, 0x20, 0x43, 0x4C, 0x45, 0x41, 0x52, 0x20, 0x4F, 0x4E, 0x20,
     0x52, 0x49, 0x4E, 0x47, 0x20, 0x52, 0x4F, 0x41, 0x44]

/-- The row of P = 16: "K7  RING ROAD  T". -/
theorem test_label_window :
    roadLabel.instanceText 16 =
      [0x4B, 0x37, 0x20, 0x20, 0x52, 0x49, 0x4E, 0x47, 0x20, 0x52, 0x4F, 0x41, 0x44, 0x20, 0x20, 0x54] := by decide

/-- Forwards the step after 24 gives 0; in reverse the step after 0 gives 24. -/
theorem test_label_cycle :
    roadLabel.stepFrom 24 = 0 ∧ LabelParams.stepFrom { roadLabel with reversed := true } 0 = 24 := by decide

/-- The service of the first worked frame of 5.10. -/
def packedService : Service :=
  let p := normaliseLabel 16 0 16 0 2 1 10 1 true false (List.replicate 16 0x41)
  { Service.fresh entryA 0 with
    annex := { Annex.fresh entryA with labelCredit := 200, pictureCredit := 96, sequence := 40 }
    label := { LabelState.reset with
      buffer := some p, run := { LabelRun.reset with chars := some (p.instanceText 0) } }
    picture := { PictureState.reset with
      carousel := .sending
      object := { addr := 0, len := 6000, passes := 1, dwell := 0 }
      pass := { PassRun.reset with offset := 1000 }
      staging := List.replicate 240 7 } }

/-- What a packing reads outside a takeover. -/
def ownInput : PackInput :=
  { target := false, alertQuantum := 0, alertHead := [], alertBody := [], stepInterval := 1, region := Region.reset }

/-- The first worked frame of 5.10: L = 301; a label packet of 23 and a picture packet of 46 go, 12 bytes are fill, the
credits end at 160 and 0, the next sequence number is 42, and 4,963 object bytes remain with 203 staged. -/
theorem test_packing :
    let k := packField ownInput entryA (List.replicate 301 0) true packedService
    k.room = 12 ∧ k.sent.length = 69 ∧ k.svc.annex.labelCredit = 160 ∧ k.svc.annex.pictureCredit = 0 ∧
      k.svc.annex.sequence = 42 ∧ k.svc.picture.remaining = 4963 ∧ k.svc.picture.staging.length = 203 := by
  decide

/-- The rows of frames 2,001, 2,004 and of n = 251 of the ladder of 4.8. -/
theorem test_ladder :
    let c : Contribution :=
      { substitution := .normal, lateRun := 0, lastLate := .none, lateTotal := 17, taken := 0, repeatBuffer := some [1, 2] }
    let at_ (n : Nat) := decideAudio { c with lateRun := n } (.late .absent) (some [9]) 382 2001
    (at_ 0).audio = [1, 2] ∧ (at_ 0).record.lateTotal = 18 ∧ (at_ 3).audio = [9] ∧ (at_ 250).audio = [] ∧
      (at_ 250).record.substitution = .dormant := by decide

/-- A queue entry of a level, in a state, inserted at an order. -/
def queued (id level order : Nat) (st : EntryState) : AlertEntry :=
  { source := .telegram, alertId := BitVec.ofNat 8 id, level := level, mask := 1, remaining := 209, text := [], state := st
    announce := 0, endMark := false, order := order }

/-- The queue of "A full queue" in 10.6: X (level 2, ACTIVE), W1 (level 2), W2 and W3 (level 1). -/
def fullQueue : AlertController :=
  { AlertController.reset with
    queue := [queued 1 2 0 .active, queued 2 2 1 .waiting, queued 3 1 2 .waiting, queued 4 1 3 .waiting], nextOrder := 4 }

/-- A request by telegram, of an id in no entry of fullQueue. -/
def request (isClear : Bool) (id level : Nat) : AlertRequest :=
  { source := .telegram, isClear := isClear, alertId := BitVec.ofNat 8 id, level := level, mask := 1, duration := 10, text := [] }

/-- Rows 1 to 3 of that table, the second and third after the first. -/
theorem test_full_queue :
    let one := (applyRequest (request false 5 2) fullQueue).ac
    let two := (applyRequest (request false 6 1) one).ac
    let three := (applyRequest (request false 7 3) two).ac
    one.queue.map (·.alertId) = [1, 2, 5, 3] ∧ two.queue.map (·.alertId) = [1, 2, 5, 3] ∧
      three.queue.map (·.alertId) = [7, 1, 2, 5] ∧ three.drops = 3 := by decide

/-! ### Commands -/

theorem test_power_on_reset_withdraws_all :
    let t := after .powerOnReset (emitting running)
    t.modes.mode = .stopped ∧ t.services = [] ∧ t.mp.quietEnd = some 4000 ∧ t.regs.rootLo = 0 := by decide

theorem test_soft_reset_keeps_root_and_mask :
    let t := after (.softReset 0x100) (after (.causeMaskWrite 0xFFFFFFFF) running)
    t.modes.mode = .stopped ∧ t.regs.rootLo = 0x1000 ∧ t.sw.mask = 0x3FF ∧ t.sw.cause = 0 := by decide

/-- R22: root address 0. -/
theorem test_run_refused : (after .modeRequestRun quietOver).modes.startResult = .rootAddress := by decide

/-- R22, R23: the root read is granted at once to slot 0 (R187). -/
theorem test_run_starts :
    let t := after .modeRequestRun (after (.rootAddressWrite .rootLo 0x1000) quietOver)
    t.modes.mode = .starting ∧ t.mp.slotOf .rootRead = some 0 ∧ t.ft.timingFrom = some 0 := by decide

theorem test_hold_waits : (after .modeRequestHold running).modes.pending = .hold := by decide

theorem test_stop_in_emission_waits :
    (after .modeRequestStop (emitting running)).modes.pending = .stop ∧
      (after .modeRequestStop running).modes.mode = .stopped := by decide

theorem test_source_waits_outside_stopped :
    (after (.frameSourceSelect .external) running).ft.source = .internal ∧
      (after (.frameSourceSelect .external) quietOver).ft.state = .locked := by decide

theorem test_mark_enable : (after (.frameMarkEnable true) running).regs.markEnable = true := by decide

/-- R30, R195: ROOT_HI has 8 bits; a write outside STOPPED is ignored. -/
theorem test_root_address :
    (after (.rootAddressWrite .rootHi 0x1A5) quietOver).rootAddress = 0xA500000000 ∧
      (after (.rootAddressWrite .rootLo 0x40) running).regs.rootLo = 0x1000 := by decide

theorem test_cause_read_clears :
    let t := after .causeRead (raise .fault (raise .frame quietOver))
    t.regs.readData = 0x11 ∧ t.sw.cause = 0 := by decide

theorem test_ident_write_ignored : exec (.registerWrite .ident 5) running = .next running := rfl

/-- 12.2: the words read at 0x00, 0x04 (source EXTERNAL, FRAME_MARK enabled) and 0x18 (RUNNING, start result OK), and the
commands of a CONTROL write with the request field RUN. -/
theorem test_register_port :
    let s := after (.frameMarkEnable true) (external .locked running)
    (portRead 0x00 s).regs.readData = 0x24600001 ∧ (portRead 0x04 s).regs.readData = 0x30 ∧
      (portRead 0x18 s).regs.readData = 0x212 ∧
      portWrite 0x04 0x31 = [.frameSourceSelect .external, .frameMarkEnable true, .modeRequestRun] ∧ portWrite 0x1C 1 = [] := by
  decide

/-- 1.2, first rows: the deadline at 52 ms enters HOLDOVER; an edge at 38 ms is only recorded. -/
theorem test_deadline_then_edge :
    let t := after (.frameInEdge 38000) (after .lockedDeadline (external .locked (inMode .starting .rootRead)))
    t.ft.state = .holdover ∧ t.ft.lastStart = some 52000 ∧ t.ft.edgePhase = some 38000 ∧ t.ft.holdovers = 1 := by
  decide

theorem test_holdover_expiry :
    let s := external .holdover (inMode .starting .rootRead)
    let t := after .holdoverPeriodExpiry (after (.frameInEdge 38000) s)
    t.ft.lastStart = some 48000 ∧ t.ft.period = 47 ∧ t.ft.holdovers = 1 := by decide

/-- R24: the opening start consumes no serial. -/
theorem test_opening_start :
    let t := after .internalPeriodExpiry (inMode .starting .endedOk)
    t.modes.mode = .running ∧ t.ft.nextSerial = 0 ∧ t.cp.poll = .inFlight ∧ t.now = 48000 := by decide

/-- R17: a frame still in emission is truncated. -/
theorem test_start_truncates :
    let t := after .internalPeriodExpiry (cutMade .none (emitting running))
    t.tp.truncated = 1 ∧ t.tp.state = .emitting ∧ t.tp.position = 0 ∧ t.ft.nextSerial = 1 := by decide

theorem test_bytes_sent :
    (after (.txReadyChange false 100) (emitting running)).tp.position = 100 ∧
      (after .lastByteSent (emitting running)).tp.state = .sent := by decide

/-- R61: both services are polled, in plan order. -/
theorem test_poll_offset :
    let t := after .pollOffset running
    t.mp.slotOf (.slotHeader (.service 0x0301)) = some 0 ∧ t.mp.slotOf (.slotHeader (.service 0x0302)) = some 1 ∧
      t.now = 8000 := by decide

/-- The worked sequence of 3.6: what service 0x0101 carries from plan 7 to plan 11, and its slot for frame 1,017. -/
theorem test_carry_over :
    let new : PlanEntry := { entryA with cells := 10, ringDepth := 12, pictureAddr := 0x50000, pictureQuantum := 480 }
    let old : Service := { serviceA with
      contribution := { serviceA.contribution with lateTotal := 3, repeatBuffer := some (zeros 340) }
      annex := { serviceA.annex with labelCredit := 488, pictureCredit := 4800 } }
    let w := old.carried entryA new
    w.contribution = { old.contribution with repeatBuffer := none } ∧ w.annex.labelCredit = 488 ∧
      w.annex.pictureCredit = 3840 ∧ slotAddress new.ringBase new.ringDepth 320 1017 = new.ringBase + 3168 := by
  decide +kernel

/-- R67, R71: slots never polled to an end are late, and LATE is raised; the frame is completed. -/
theorem test_cut_off :
    let t := after .cutOff running
    t.completed.map (·.serial) = some 0 ∧ t.sw.cause.getLsbD 3 = true ∧
      t.services.map (·.contribution.lateRun) = [1, 1] ∧ t.now = 40000 := by decide +kernel

/-- A service whose label and carousel wait on their timers. -/
def timedService : Service :=
  { packedService with
    label := { packedService.label with
      buffer := some roadLabel
      run := { LabelRun.reset with chars := some (roadLabel.instanceText 0), passCount := 2, timer := 1 } }
    picture := { PictureState.reset with carousel := .dwelling, dwellTimer := 1 } }

/-- R110 on the complete instance of the worked sequence: to position 4 with serial 1. -/
theorem test_label_step :
    let t := after (.labelStepTimerExpiry 0x0301) { running with services := [timedService] }
    t.services.map (fun v => (v.label.run.position, v.label.run.serial, v.label.run.timer)) = [(4, 1, 2)] := by
  decide

/-- A service under takeover with a scrolling alert label. -/
def takenService : Service :=
  { packedService with
    annex := { packedService.annex with mode := .alert }
    label := packedService.label.startAlert [] (List.replicate 31 0x41) 1 }

/-- R114: an alert label just built is not complete, so the step is pending. -/
theorem test_alert_step :
    let t := after (.alertStepTimerExpiry 0x0301) { running with services := [takenService] }
    t.services.map (fun v => (v.label.alert.map (·.run.stepPending)).getD false) = [true] := by decide

/-- R129: a frame fixed HOLDING leaves the dwell timer as it is. -/
theorem test_dwell_stands_in_holding :
    let s : State := { inMode .holding .idle with services := [timedService] }
    after (.dwellTimerExpiry 0x0301) s = s := by decide

theorem test_dwell_ends :
    let t := after (.dwellTimerExpiry 0x0301) { running with services := [timedService] }
    t.services.map (·.picture.carousel) = [.idle] := by decide

/-- R23: a good root read enables the line at 9,600 baud and loads the plan from the address given. -/
theorem test_root_read :
    let t := after (.rootReadDone (.data rootBytes)) (onBus .rootRead none 128 (inMode .starting .rootRead))
    t.alr.state = .hunt ∧ t.alr.rate = .baud9600 ∧ t.mp.waiting.map (fun r => (r.addr, r.len)) = [(0x2000, 16)] := by
  decide

/-- R33: a wrong signature is ignored and counted. -/
theorem test_root_poll_ignored :
    let t := after (.rootPollDone (.data (zeros 128))) (onBus .rootPoll none 128 running)
    t.cp.ignores = 1 ∧ t.cp.accepted = some rootTaken := by decide

/-- R44: a failed load into ACTIVE ends the start with PLAN_INVALID. -/
theorem test_plan_load_fails :
    let s := inMode .starting .planLoad
    let t := after (.planLoadTransferDone .error) (onBus .planLoad none 16 { s with
      pm := { s.pm with active := .filling, load := some { toActive := true, addr := 0x2000, header := none, bytes := [] } } })
    t.modes.mode = .stopped ∧ t.modes.startResult = .planInvalid ∧ t.pm.lastResult = .fault := by decide

/-- R36: the trailing copy ends the write-back with FRAME. -/
theorem test_status_ends :
    let t := after (.statusTransferDone (.data [])) (onBus .status (some [0, 0, 0, 1]) 4 { running with
      sw := { running.sw with state := .writing, part := 5, current := some { addr := 0x8000, body := zeros 892 } } })
    t.sw.state = .idle ∧ t.sw.cause = 1 := by decide

/-- The header of a slot for frame 0 with L = 301 and no flags. -/
def header301 : List Byte := [0, 0, 1, 45, 0]

/-- The record of entryA's service reading its slot, in a phase, with some bytes received. -/
def slotIn (phase : SlotPhase) (n : Nat) : State :=
  { running with services := [{ serviceA with
      slot := some { phase := phase, outcome := .none, held := some (slotHeaderOf header301), buffer := zeros n } }] }

/-- 4.8: a burst of 256 is requested, then one of 45, then the confirm read, which finds the slot GOOD. -/
theorem test_slot_read :
    let k : SlotKey := .service 0x0301
    let t1 := after (.slotHeaderReadDone k (.data header301)) (onBus (.slotHeader k) none 5 (slotIn .header 0))
    let t2 := after (.payloadBurstDone k (.data (zeros 256))) (onBus (.slotPayload k) none 256 (slotIn .fetch 0))
    let t3 := after (.confirmReadDone k (.data header301)) (onBus (.slotConfirm k) none 5 (slotIn .confirm 301))
    t1.mp.waiting.map (·.len) = [256] ∧ t2.mp.waiting.map (·.len) = [45] ∧
      (t3.slotRead k).map (·.phase) = some .good := by decide

/-- R102: nothing is held, so the label is fetched; R103: a torn copy is discarded. -/
theorem test_label_read :
    let t1 := after (.labelPollDone 0x0301 (.data (zeros 16))) (onBus (.labelPoll 0x0301) none 16 running)
    let t2 := after (.labelFetchDone 0x0301 (.data ([0, 1] ++ zeros 208))) (onBus (.labelFetch 0x0301) none 210 running)
    t1.mp.waiting.map (fun r => (r.addr, r.len)) = [(0x30000, 210)] ∧
      t2.services.map (·.label.received) = [none, none] := by decide

/-- The first rows of "A walk of a short list" in 7.8: revision 5, count 3; entry 0 of 100 bytes with revision 9. -/
theorem test_picture_selection :
    let t1 := after (.pictureHeaderReadDone 0x0301 (.data ([0, 5, 3] ++ zeros 13))) (onBus (.listHeader 0x0301) none 16 running)
    let entry0 := be 5 0x50000 ++ zeros 3 ++ be 4 100 ++ be 2 2 ++ [1, 1] ++ be 2 9 ++ zeros 14
    let t2 := after (.pictureEntryReadDone 0x0301 (.data entry0)) (onBus (.listEntry 0x0301) none 32 t1)
    t1.mp.waiting.map (fun r => (r.addr, r.len)) = [(0x40010, 32)] ∧
      t2.services.map (fun v => (v.picture.carousel, v.picture.pass.toggle, v.picture.refill)) =
        [(.sending, true, .record), (.idle, false, .idle)] := by decide

/-- "An entry changed under a pass" in 7.8: entry 2, toggle 1, segment 20, revision 9 found as 10. -/
def sendingEntry2 : Service :=
  { serviceA with
    picture := { PictureState.reset with
      carousel := .sending, entry := 2, nextIndex := 2, passRevision := 9, refill := .record
      object := { addr := 0x50000, len := 5000, passes := 2, dwell := 0 }
      pass := { PassRun.reset with toggle := true, offset := 1200, segment := 20 }
      staging := zeros 150 } }

theorem test_refill_abandons :
    let t := after (.refillRecordDone 0x0301 (.data (zeros 16 ++ [0, 10] ++ zeros 14)))
      (onBus (.refillRecord 0x0301) none 32 { running with services := [sendingEntry2] })
    t.services.map (fun v => (v.picture.carousel, v.picture.nextIndex, v.picture.abort)) =
      [(.idle, 3, some { entry := 2, toggle := true, segments := 20 })] := by decide

theorem test_refill_stages :
    let t := after (.refillDataDone 0x0301 (.data (zeros 90)))
      (onBus (.refillData 0x0301) none 90 { running with services := [sendingEntry2] })
    t.services.map (·.picture.staging.length) = [240] := by decide

/-- A cell whose text is being fetched. -/
def fetchingCell : CellRequest :=
  { complete := false, isClear := false, alertId := 17, level := 2, mask := 5, duration := 60, text := [] }

theorem test_alert_text :
    let t := after (.alertTextReadDone (.data [0x46, 0x4C])) (onBus .alertText none 2 { running with
      ac := { running.ac with cell := some fetchingCell } })
    t.ac.cell = some { fetchingCell with complete := true, text := [0x46, 0x4C] } := by decide

/-- A load of some bytes into a region, none copied yet. -/
def loading (i : RegionId) (len : Nat) : State :=
  { running with ss := { running.ss.setRegion i { Region.reset with state := .loading } with
      load := some { request := { region := i, addr := 0x60000, len := len, sequence := 41 }, copied := 0 } } }

/-- R181: a LOOP of one frame of 3 bytes is VALID; a frame length of 0 fails its check. -/
theorem test_standby_load :
    let t1 := after (.standbyTransferDone (.data [0, 3, 7, 8, 9])) (onBus .standby none 5 (loading .loop 5))
    let t2 := after (.standbyTransferDone (.data [0, 0, 7, 8, 9])) (onBus .standby none 5 (loading .loop 5))
    t1.ss.loop.state = .valid ∧ t1.ss.loop.revision = 41 ∧ t1.ss.frameCount = 1 ∧
      t2.ss.loop.state = .invalid ∧ t2.ss.lastResult = .format := by decide

/-- The line with its receiver in a state. -/
def line (st : LineState) (armed : Bool) (fifo : List FifoEntry) : State :=
  { running with alr := { running.alr with state := st, armed := armed, fifo := fifo } }

/-- Three samples of one level. -/
def level (b : Bool) : BitSamples := { s7 := b, s8 := b, s9 := b }

/-- The samples of the worked byte of 9.2: 0xA5, even parity, sample 8 of data bit 3 flipped. -/
def byteA5 : ByteSamples :=
  { data := #v[level true, level false, level true, { s7 := false, s8 := true, s9 := false }, level false, level true,
      level false, level true]
    parity := level false, stop := level true }

theorem test_byte_a5 :
    (after (.lineByteComplete byteA5) (line .receiving false [])).alr.fifo =
      [{ value := some 0xA5, noise := true, parity := false, framing := false, isBreak := false, overrunBefore := false }] := by
  decide

/-- R151: ten bits of 0 are a BREAK, which ends after a bit time of high line. -/
theorem test_break :
    let zero : ByteSamples := { data := Vector.replicate 8 (level false), parity := level false, stop := level false }
    let t := after (.lineByteComplete zero) (line .receiving false [])
    t.alr.state = .breakWait ∧ t.alr.fifo.map (·.isBreak) = [true] ∧
      (after .breakWaitEnd t).alr.state = .hunt := by decide

theorem test_idle_marker :
    let t := after .idleMarker (line .hunt true [])
    t.alr.fifo = [idleMarkerEntry] ∧ t.alr.armed = false := by decide

/-- R151, R152: a line held low after a FRAMING byte completes the idle marker and makes no start; once it has risen it does. -/
theorem test_low_line_makes_no_start :
    let t := after .idleMarker (after (.lineByteComplete { byteA5 with stop := level false }) (line .receiving false []))
    t.alr.fifo.map (fun e => (e.framing, e.value.isNone)) = [(true, false), (false, true)] ∧
      after (.lineFallingEdge 0) t = t ∧ (after (.lineFallingEdge 325) t).alr.state = .start := by decide

/-- R149: an edge in HUNT, then the majority of the start bit's samples. -/
theorem test_start_bit :
    let t := after (.lineFallingEdge 3) (line .hunt false [])
    (after (.startBitSample { s7 := false, s8 := true, s9 := false }) t).alr.state = .receiving ∧
      (after (.startBitSample { s7 := true, s8 := true, s9 := false }) t).alr.state = .hunt := by decide

/-- A clean byte. -/
def clean (b : Byte) : FifoEntry :=
  { value := some b, noise := false, parity := false, framing := false, isBreak := false, overrunBefore := false }

/-- A BREAK. -/
def breakMark : FifoEntry := { clean 0 with isBreak := true }

/-- The telegram of 9.6: an ALERT, id 17, level 2, mask 0x05, area 0x0310, 60 seconds, "FLOOD". -/
def floodBody : List Byte := [1, 17, 2, 5, 0x03, 0x10, 0, 60, 5, 0x46, 0x4C, 0x4F, 0x4F, 0x44]

/-- The line with the parser in a state over that telegram, and one clean byte waiting. -/
def parsing (st : ParserState) (body crc : List Byte) (b : Byte) : State :=
  let s := line .hunt true [clean b]
  { s with tgp := { s.tgp with state := st, len := 14, body := body, crc := crc } }

/-- The second byte of the CRC of the 15 covered bytes. -/
def floodCrc : List Byte := be16 (crc16 (14 :: floodBody))

/-- 9.6, its last bytes: the checks pass and the telegram is held. -/
theorem test_telegram_held :
    let t := after .parserTakeEntry (parsing .check floodBody [byteAt floodCrc 0] (byteAt floodCrc 1))
    t.tgp.state = .hold ∧ t.tgp.hold.map (fun m => (m.alertId, m.level, m.duration, m.text)) =
      some (17, 2, 60, [0x46, 0x4C, 0x4F, 0x4F, 0x44]) := by decide

/-- A telegram of another CRC is a CHECK reject. -/
theorem test_telegram_rejected :
    let t := after .parserTakeEntry (parsing .check floodBody [byteAt floodCrc 0] (byteAt floodCrc 1 + 1))
    t.tgp.state = .hunt ∧ t.tgp.rejects.toList = [0, 0, 0, 0, 0, 0, 0, 1, 0, 0] := by decide

/-- The requests of "A BULK request promoted" in 11.6, with nothing granted: times in microseconds. -/
def waitingList : List Request :=
  [{ purpose := .labelFetch 1, cls := .bulk, data := none, addr := 0, len := 210, entry := 3000 },
   { purpose := .rootPoll, cls := .control, data := none, addr := 0, len := 128, entry := 9000 },
   { purpose := .status, cls := .control, data := some [0], addr := 0, len := 1, entry := 14000 }]

/-- Those requests waiting, with the slots FREE. -/
def queuedUp : State := { running with mp := { running.mp with waiting := waitingList } }

/-- Before its promotion the root poll goes ahead of L; after it L, promoted at 15 ms, goes first. -/
theorem test_promotion :
    let t := after .bulkPromotion queuedUp
    (after .transferGrant queuedUp).mp.slotOf .rootPoll = some 0 ∧ t.now = 15000 ∧
      (after .transferGrant t).mp.slotOf (.labelFetch 1) = some 0 := by decide

/-- A slot's response with the slot's grant number is taken, and one with another is ignored. -/
theorem test_responses :
    let s := onBus .rootPoll none 128 running
    (after (.transferResponse 0 5 .error) s).mp.faults = 1 ∧ (after (.transferResponse 0 6 .error) s).mp.faults = 0 := by
  decide

/-- "A slot read overtaken by its cut-off, then a timeout" in 11.6: the withdrawn burst times out 4 ms after its grant, is
counted, and its late response is ignored. -/
theorem test_timeout_and_stale_response :
    let s := { running with mp := { running.mp with
      slots := running.mp.slots.set 3 (some { flight (.slotPayload (.service 0x0301)) none 45 true with grant := 114 }) } }
    let t := after (.transferTimeout 3) s
    t.mp.timeouts = 1 ∧ t.now = 5000 ∧ t.sw.cause = 0x10 ∧ after (.staleResponse 3 114 .error) t = t := by
  decide

/-- R193: after the quiet time the waiting requests are granted. -/
theorem test_quiet_end :
    let t := after .quietTimeEnd { queuedUp with mp := { queuedUp.mp with quietEnd := some 4000 } }
    t.mp.waiting = [] ∧ t.mp.grantCounter = 3 ∧ t.now = 4000 := by decide

/-! ### Witnesses: the hypotheses of each statement hold of a concrete state, clause by clause

Each theorem is named for its statement. A transfer on the bus is reading_onBus or writing_onBus above. -/

theorem witness_StepRunsFrontCommand :
    State.pending { running with pending := [.cutOff, .causeRead] } = .cutOff :: [.causeRead] ∧ running.pending = [] := by
  decide

theorem witness_SoftReset :
    (∃ p, exec .powerOnReset (loading .loop 5) = .next p) ∧ ((loading .loop 5).ss.region .loop).state = .loading ∧
      ((loading .loop 5).ss.region .text).state ≠ .loading := ⟨⟨_, rfl⟩, by decide⟩

theorem witness_RunAndHoldRequests :
    let holding := inMode .holding .idle
    quietOver.modes.mode = .stopped ∧ (inMode .starting .rootRead).modes.mode = .starting ∧
      (running.modes.mode = .running ∧ running.modes.pending = .none) ∧ (setPending .hold running).modes.pending = .hold ∧
      (holding.modes.mode = .holding ∧ holding.modes.pending = .none) ∧ (setPending .run holding).modes.pending = .run ∧
      (setPending .stop running).modes.pending = .stop := by decide

/-- The refused addresses 0 and 0x1001, and 64, the lowest that starts. -/
theorem witness_RunFromStopped :
    let at_ (lo : BitVec 32) : State := { quietOver with regs := { quietOver.regs with rootLo := lo } }
    (at_ 0).modes.mode = .stopped ∧ (at_ 0).rootAddress = 0 ∧ (at_ 0x1001).rootAddress.toNat % 64 ≠ 0 ∧
      (at_ 64).rootAddress ≠ 0 ∧ (at_ 64).rootAddress.toNat % 64 = 0 := by decide

/-- Among them a state with a region LOADING. -/
theorem witness_StopRequests :
    ((loading .loop 5).modes.mode = .running ∧ (loading .loop 5).tp.state ≠ .emitting ∧
      ((loading .loop 5).ss.region .loop).state = .loading ∧ ((loading .loop 5).ss.region .text).state ≠ .loading) ∧
    quietOver.modes.mode = .stopped ∧ (inMode .starting .rootRead).modes.mode = .starting ∧
      (setPending .stop running).modes.pending = .stop ∧ running.modes.pending ≠ .stop ∧
      (emitting running).tp.state = .emitting ∧ running.tp.state ≠ .emitting := by decide

/-- Outside and in STOPPED; the soft-reset bit set and clear, and the four values of the request field. -/
theorem witness_RegistersReadAndWritten :
    running.modes.mode ≠ .stopped ∧ quietOver.modes.mode = .stopped ∧
      (0x100#32).getLsbD 8 = true ∧ (0x33#32).getLsbD 8 = false ∧
      ([0x30#32, 0x31#32, 0x32#32, 0x33#32].map (BitVec.extractLsb' 0 2)) = [0#2, 1#2, 2#2, 3#2] ∧
      0x0C ≠ 0x10 ∧ 3 ≠ 4 ∧ 3 ≠ 5 := by decide

theorem witness_RootAddressHeldWhileRunning :
    ∃ t, exec (.rootAddressWrite .rootLo 64) quietOver = .next t ∧ t.rootAddress ≠ quietOver.rootAddress :=
  ⟨_, rfl, by decide⟩

theorem witness_CauseBitsStaySet :
    (∃ t, exec .cutOff (raise .mode running) = .next t) ∧ (raise .mode running).sw.cause.getLsbD 8 = true :=
  ⟨⟨_, rfl⟩, by decide⟩

/-- STARTING under EXTERNAL, before the first edge and after a start; and RUNNING and HOLDING at a start. -/
theorem witness_FrameInEdges :
    let s := external .locked (inMode .starting .rootRead)
    let first : State := { s with ft := { s.ft with lastStart := none } }
    let h := external .holdover (inMode .starting .rootRead)
    quietOver.ft.timingFrom = none ∧ running.ft.state = .internal ∧
      (s.ft.timingIn .locked = true ∧ s.ft.lastStart ≠ none ∧ 43999 < 44000) ∧
      (h.ft.timingIn .holdover = true ∧ 43999 < 44000 ∧ 44000 ≤ 44000) ∧
      (s.modes.mode = .starting ∧ s.modes.stage ≠ .endedOk ∧ s.ft.source = s.regs.source) ∧
      (first.ft.timingIn .locked = true ∧ first.ft.lastStart = none) ∧
      (h.modes.mode = .starting ∧ h.modes.stage ≠ .endedOk ∧ h.ft.source = h.regs.source) ∧
      (∀ st ∈ [TimerState.locked, .holdover], ∀ base ∈ [running, inMode .holding .idle],
        let r := external st (cutMade .none base)
        (r.modes.mode = .running ∨ r.modes.mode = .holding) ∧ r.modes.pending ≠ .stop ∧ r.ft.cutOffMade = true ∧
          r.ft.source = r.regs.source ∧ r.ft.timingIn st = true) := by decide

theorem witness_TimerExpiries :
    let i := inMode .starting .rootRead
    let s := external .locked i
    let h := external .holdover i
    (i.ft.timingIn .internal = true ∧ s.ft.timingIn .internal = false) ∧
      (s.ft.timingIn .locked = true ∧ h.ft.timingIn .locked = false) ∧
      (h.ft.timingIn .holdover = true ∧ i.ft.timingIn .holdover = false) ∧
      (i.modes.mode = .starting ∧ i.modes.stage ≠ .endedOk ∧ i.ft.source = i.regs.source) ∧
      s.ft.source = s.regs.source ∧ h.ft.source = h.regs.source ∧
      (∀ r ∈ [cutMade .none running, external .locked (cutMade .none running), external .holdover (cutMade .none running)],
        r.modes.mode = .running ∧ r.modes.pending ≠ .stop ∧ r.ft.cutOffMade = true ∧ r.ft.source = r.regs.source ∧
          r.ft.timingIn r.ft.state = true) ∧ (cutMade .hold (inMode .holding .idle)).modes.mode = .holding := by decide

/-- Before the opening start, with the services of frame 0's plan. -/
def opening : State := { inMode .starting .endedOk with pm := running.pm, services := running.services }

theorem witness_OpeningStart :
    TakesStart opening .internalPeriodExpiry 48000 ∧ TakesStart (external .locked opening) (.frameInEdge 44000) 44000 ∧
      opening.modes.mode = .starting ∧ opening.modes.stage = .endedOk ∧ (opening.services.map (·.sid)).Nodup :=
  ⟨.internal (by decide), .edge 44000 (by decide) (by decide), by decide⟩

/-- A state at a frame start with a snapshot assembled, its Status Writer in a state, and a source change waiting. -/
def atStart (w : WriteState) (source : FrameSource) : State :=
  let s := cutMade .none (emitting running)
  { s with
    regs := { s.regs with source := source }
    cp := { s.cp with accepted := some { rootTaken with statusAddr := 0x8000 } }
    sw := { s.sw with
      state := w, assembled := some (zeros 892)
      current := if w = .idle then none else some { addr := 0x9000, body := zeros 892 } }
    mp := { s.mp with waiting := if w = .waiting then
      [{ purpose := .status, cls := .control, data := some [0, 0, 0, 1], addr := 0x9000, len := 4, entry := 0 }] else [] } }

/-- Snapshots to address 0 and to another; write-backs IDLE, WAITING and WRITING, one with a snapshot held; and source changes
between INTERNAL and EXTERNAL. -/
theorem witness_FrameStartEmits :
    let s := cutMade .none (emitting running)
    TakesStart s .internalPeriodExpiry 48000 ∧ TakesStart (external .locked s) .lockedDeadline 52000 ∧
      s.modes.mode = .running ∧ (cutMade .none (inMode .holding .idle)).modes.mode = .holding ∧
      s.modes.pending ≠ .stop ∧ s.ft.cutOffMade = true ∧ s.sw.assembled = none ∧ s.statusAddr = 0 ∧
      (∀ w ∈ [WriteState.idle, .waiting, .writing], TakesStart (atStart w .external) .internalPeriodExpiry 48000 ∧
        (atStart w .external).sw.assembled = some (zeros 892) ∧ (atStart w .external).statusAddr ≠ 0 ∧
        (atStart w .external).sw.state = w) ∧
      (atStart .waiting .internal).mp.waiting.map (·.purpose) = [.status] ∧
      (atStart .idle .external).ft.source ≠ (atStart .idle .external).regs.source ∧
      (let e := external .locked s
       let back : State := { e with regs := { e.regs with source := .internal } }
       TakesStart back (.frameInEdge 44000) 44000 ∧ back.ft.source ≠ back.regs.source ∧ back.ft.state ≠ .internal) :=
  ⟨.internal (by decide), .deadline (by decide), by decide, by decide, by decide, by decide, by decide, by decide,
    fun w _ => ⟨.internal rfl, rfl, by cases w <;> decide, rfl⟩, by decide, by decide, .edge 44000 (by decide) (by decide),
    by decide, by decide⟩

/-- Services whose assembly period begins: DORMANT, with a selection to begin; with a refill to begin, at 239 bytes staged; a target; and
the frames that keep an alert slot and that keep none. -/
theorem witness_FrameStartEmits_assembly :
    let quiet : Service := { serviceA with contribution := { serviceA.contribution with substitution := .dormant } }
    let sends : PictureState := { PictureState.reset with
      carousel := .sending, staging := zeros 239, object := { addr := 0, len := 240, passes := 1, dwell := 0 } }
    let s : State := { cutMade .none running with services := [quiet, serviceB] }
    let alerted : State := { s with ac := { s.ac with phase := .active, targets := [0x0301] } }
    let t := after .internalPeriodExpiry s
    let u := after .internalPeriodExpiry alerted
    let h := after .internalPeriodExpiry { s with modes := { s.modes with mode := .holding } }
    (s.services.map (·.sid)).Nodup ∧ t.modes.mode = .running ∧ quiet ∈ s.services ∧ s.entryOf quiet.sid = some entryA ∧
      Selects t entryA quiet.picture ∧ Refills t entryA sends ∧ ¬ Selects u entryA quiet.picture ∧ ¬ Refills u entryA sends ∧
      (u.ac.phase = .active ∧ u.cp.accepted = some rootTaken ∧ rootTaken.loopOnly = false) ∧ t.ac.phase ≠ .active ∧
      h.modes.mode = .holding := by
  unfold Selects Refills Targeted
  decide +kernel

theorem witness_StopAtFrameStart :
    let s := cutMade .stop (emitting running)
    TakesStart (external .holdover s) .holdoverPeriodExpiry 48000 ∧ TakesStart s .internalPeriodExpiry 48000 ∧
      s.modes.mode = .running ∧ s.modes.pending = .stop ∧ s.ft.cutOffMade = true :=
  ⟨.expiry (by decide), .internal (by decide), by decide⟩

theorem witness_EmissionAdvances :
    ((emitting running).tp.state = .emitting ∧ (emitting running).tp.ready = true ∧ running.modes.pending ≠ .stop) ∧
      running.tp.state ≠ .emitting ∧ quietOver.tp.ready = false ∧
      (setPending .stop (emitting running)).modes.pending = .stop := by decide

/-- The last offset, with a service to poll and a DORMANT one; and alert slots IDLE and in a read. -/
theorem witness_PollOffsetPolls :
    let slot (p : SlotPhase) : AlertSlot := { slot := { SlotRead.fresh with phase := p }, base := 0, depth := 2, size := 64 }
    let ring (p : SlotPhase) : State := { running with alertSlot := some (slot p) }
    ((ring .idle).alertSlot = some (slot .idle) ∧ (slot .idle).slot.phase = .idle ∧
      (ring .fetch).alertSlot = some (slot .fetch) ∧ (slot .fetch).slot.phase ≠ .idle ∧ running.alertSlot = none) ∧
    let quiet : Service := { serviceB with contribution := { serviceB.contribution with substitution := .dormant } }
    let s : State := { running with
      ft := { running.ft with pollsMade := 3 }
      services := [serviceA, quiet] }
    s.inAssembly = true ∧ s.ft.cutOffMade = false ∧ s.ft.pollsMade < 4 ∧ (s.services.map (·.sid)).Nodup ∧
      serviceA ∈ s.services ∧ serviceA.slot = some .fresh ∧ s.entryOf serviceA.sid = some entryA ∧
      SlotRead.fresh.phase = .idle ∧ serviceA.contribution.substitution ≠ .dormant ∧
      quiet ∈ s.services ∧ quiet.slot = some .fresh ∧ s.entryOf quiet.sid = some entryB ∧
      quiet.contribution.substitution = .dormant := by decide

/-- RUNNING with the Plan Manager in a state. -/
def planning (st : PlanState) (staged : Bank) (countdown : Nat) (remembered : Option Addr) : State :=
  { running with pm := { running.pm with
      state := st, staged := staged, countdown := countdown, remembered := remembered } }

theorem witness_CutOffCompletesHoldingFrame :
    quietOver.inAssembly = false ∧ (cutMade .none running).ft.cutOffMade = true ∧
      (inMode .holding .idle).modes.mode = .holding ∧ (inMode .holding .idle).ft.cutOffMade = false ∧
      (inMode .holding .idle).pm.state ≠ .countdown ∧ 2 ≤ (planning .countdown (.ready plan7) 2 none).pm.countdown := by decide

theorem witness_CutOffEndsSlotReads :
    running.modes.mode = .running ∧ running.ft.cutOffMade = false ∧ running.services ≠ [] ∧
      (∀ v ∈ running.services, (running.entryOf v.sid).isSome = true) := by decide

/-- The requests held at the switch and remembered at the cancel: none, an address of 0, and another. -/
theorem witness_CutOffFixesPlan :
    let atSwitch (held : Option Addr) : State :=
      let s := planning .countdown (.ready plan7) 1 none
      { s with pm := { s.pm with held := held } }
    running.inAssembly = true ∧ running.ft.cutOffMade = false ∧
      (planning .idle (.ready plan7) 0 none).pm.staged = .ready plan7 ∧
      (2 ≤ (planning .countdown (.ready plan7) 2 none).pm.countdown ∧ 2 ≤ (planning .countdown (.ready plan7) 16 none).pm.countdown) ∧
      ((atSwitch none).pm.state = .countdown ∧ (atSwitch none).pm.countdown = 1 ∧ (atSwitch none).pm.active = .ready plan7 ∧
        (atSwitch none).pm.held = none ∧ (atSwitch (some 0)).pm.held = some 0 ∧
        (atSwitch (some 0x5000)).pm.held = some 0x5000 ∧ (0x5000 : Addr) ≠ 0) ∧
      ((planning .cancelling (.ready plan7) 7 none).pm.state = .cancelling ∧
        (planning .cancelling (.ready plan7) 7 none).pm.remembered = none ∧
        (planning .cancelling (.ready plan7) 7 (some 0)).pm.remembered = some 0 ∧
        (planning .cancelling (.ready plan7) 7 (some 0x5000)).pm.remembered = some 0x5000) ∧
      (planning .loading .filling 0 none).pm.state = .loading ∧ running.pm.state = .idle ∧ running.pm.staged = .empty ∧
      (inMode .holding .idle).modes.mode = .holding := by
  decide

/-- Entries of the plan that a switch takes over: entryA narrower and with another label, entryB restarted, and a new service. -/
def moved : PlanEntry := { entryA with cells := 10, labelAddr := 0x50000 }
def again : PlanEntry := { entryB with restart := true }
def added : PlanEntry := { entryB with subId := 3, start := 24, sid := 0x0303, ringBase := 0x60000 }
def plan8 : Plan := { plan7 with entries := [moved, again, added] }

theorem plan8_sound : PlanSound plan8 :=
  ⟨by decide, by decide, by decide, by decide, by decide, by decide, by decide⟩

/-- A switch that carries a service over, restarts one, and begins one; the repeat buffer that just fits and the one that does not; and
transfers that are withdrawn, of a restarted service and of a label whose address changes, and one that is kept. -/
theorem witness_CutOffFixesPlan_carry :
    let s := planning .countdown (.ready plan8) 1 none
    PlansSound s ∧ (s.services.map (·.sid)).Nodup ∧ s.pm.active = .ready plan7 ∧
      (moved ∈ plan8.entries ∧ entryA ∈ plan7.entries ∧ (worked s).services.map (·.sid) = [0x0301, 0x0302] ∧
        moved.restart = false ∧ entryA.ringBase = moved.ringBase ∧ entryA.ringBase ≠ added.ringBase) ∧
      (again ∈ plan8.entries ∧ again.restart = true) ∧ (added ∈ plan8.entries ∧ ∀ o ∈ plan7.entries, o.sid ≠ added.sid) ∧
      (¬ 32 * moved.cells - 2 < 318 ∧ 32 * moved.cells - 2 < 319) ∧
      WithdrawnAtSwitch plan7.entries plan8.entries (.slotHeader (.service 0x0302)) ∧
      WithdrawnAtSwitch plan7.entries plan8.entries (.labelFetch 0x0301) ∧
      ¬ WithdrawnAtSwitch plan7.entries plan8.entries (.listHeader 0x0301) := by
  refine ⟨⟨fun _ h => by cases h; exact plan7_sound, fun _ h => by cases h; exact plan8_sound⟩, by decide, rfl, by decide +kernel,
    by decide, by decide, by decide, ⟨0x0302, rfl, ?_⟩, ⟨0x0301, rfl, ?_⟩, ?_⟩
  · simp [plan7, plan8, moved, again, added, entryA, entryB]
  · simp [plan7, plan8, moved, again, added, entryA, entryB]
  · rintro ⟨sid, h, all⟩
    cases h
    exact absurd (all entryA (by decide) moved (by decide) rfl rfl) (by decide)

/-- The telegram of 9.6, held. -/
def held : Telegram := telegramOf floodBody

theorem witness_FrameHeaderWritten :
    running.inAssembly = true ∧ running.ft.cutOffMade = false ∧ running.pm.active = .ready plan7 ∧
      State.inAssembly { running with modes := { running.modes with mode := .holding } } = true := by decide

/-- With no countdown and no phase; and at countdown 16 in a phase. -/
theorem witness_DirectoryFilled :
    let s := planning .countdown (.ready plan7) 16 none
    let t : State := { s with ac := { s.ac with phase := .active, copy := some (queued 1 2 0 .active) } }
    (running.inAssembly = true ∧ running.ft.cutOffMade = false ∧ running.pm.active = .ready plan7 ∧
      running.pm.countdown = 0 ∧ running.ac.phase = .none) ∧
      t.inAssembly = true ∧ t.ft.cutOffMade = false ∧ t.pm.active = .ready plan7 ∧ t.pm.countdown ≠ 0 ∧
      t.pm.staged = .ready plan7 ∧ t.ac.phase ≠ .none ∧ t.ac.copy ≠ none := by decide

/-- RUNNING or HOLDING with a request pending and a queue. -/
def fixing (m : DevMode) (pending : ModeRequest) (queue : List AlertEntry) : State :=
  let s := inMode m .idle
  { s with modes := { s.modes with pending := pending }, ac := { s.ac with queue := queue, nextOrder := 4 } }

/-- A telegram that is an ALERT of level 3. -/
def urgent : Telegram := { held with level := 3 }

/-- The rows of R25: no request; a telegram, or a COMPLETE cell, of level 3 that matches no entry, and one that matches. -/
theorem witness_CutOffFixesMode :
    let hot := queued 1 3 0 .active
    let asks (s : State) : State := { s with tgp := { s.tgp with state := .hold, hold := some urgent } }
    let cell : CellRequest :=
      { complete := true, isClear := false, alertId := 17, level := 3, mask := 5, duration := 60, text := [] }
    let cells (s : State) : State := { s with ac := { s.ac with cell := some cell } }
    (∀ m ∈ [DevMode.running, .holding], ∀ p ∈ [ModeRequest.none, .run, .hold, .stop],
      (fixing m p []).inAssembly = true ∧ (fixing m p []).ft.cutOffMade = false ∧ (fixing m p []).modes.mode = m ∧
        (fixing m p []).modes.pending = p) ∧
      NoRequest (fixing .running .hold [hot]) ∧ hot ∈ (fixing .running .hold [hot]).ac.queue ∧ hot.level = 3 ∧
      hot.state ≠ .waiting ∧ (¬ ∃ e ∈ (fixing .running .hold []).ac.queue, e.level = 3 ∧ e.state ≠ .waiting) ∧
      OneRequest (asks (fixing .holding .none [])) urgent.request ∧ OneRequest (cells (fixing .holding .none [])) cell.request ∧
      urgent.request.isClear = false ∧ urgent.request.level = 3 ∧ cell.request.isClear = false ∧ cell.request.level = 3 ∧
      (∀ e ∈ (fixing .holding .none [hot, hot, hot]).ac.queue, e.key ≠ (urgent.request.source, urgent.request.alertId)) ∧
      (fixing .holding .none [hot, hot, hot]).ac.queue.length < 4 ∧
      (∃ e ∈ (fixing .holding .none [queued 17 3 0 .waiting]).ac.queue,
        e.key = (urgent.request.source, urgent.request.alertId)) ∧
      (requestsApplied (asks (fixing .holding .none []))).level3Inserted = true ∧
      (requestsApplied (cells (fixing .running .hold []))).level3Inserted = true ∧
      (requestsApplied (fixing .holding .none [])).level3Inserted = false := by
  refine ⟨by decide, ⟨rfl, fun _ h => by cases h⟩, by decide, rfl, by decide, by decide,
    .inl ⟨urgent, rfl, (fun _ h => by cases h), rfl⟩, .inr ⟨rfl, _, rfl, rfl, rfl⟩, by decide, by decide, by decide, by decide,
    by decide, by decide, by decide, by decide, by decide, by decide⟩

/-- Queues whose current entry is ACTIVE with an entry that waits, and with none; fixed RUNNING, and HOLDING. -/
theorem witness_CutOffFixesPhase :
    let two := [queued 1 2 0 .active, queued 2 1 1 .waiting]
    (∀ q ∈ [two, two.take 1, []], ∀ m ∈ [DevMode.running, .holding],
      (fixing m .none q).inAssembly = true ∧ (fixing m .none q).ft.cutOffMade = false ∧ NoRequest (fixing m .none q) ∧
        QueueSound (fixing m .none q).ac) ∧
      (let t := after .cutOff { fixing .running .none two with pm := running.pm }
       t.modes.mode = .running ∧ t.ac.copy.isSome = true ∧ t.ac.phase = .active ∧ t.pm.active = .ready plan7) ∧
      (after .cutOff (fixing .holding .none two)).modes.mode = .holding := by
  refine ⟨fun q hq m hm => ?_, by decide +kernel, by decide +kernel⟩
  simp only [List.mem_cons, List.not_mem_nil, or_false] at hq hm
  obtain rfl | rfl | rfl := hq <;> obtain rfl | rfl := hm <;>
    exact ⟨by decide, by decide, ⟨rfl, fun _ h => by cases h⟩, by decide, by decide, by decide, by decide, by decide⟩

theorem witness_CutOffTakesTelegram :
    let s : State := { running with tgp := { running.tgp with state := .hold, hold := some held } }
    s.modes.mode = .running ∧ s.modes.pending ≠ .hold ∧ s.ft.cutOffMade = false ∧ s.tgp.hold = some held ∧
      held.isClear = false ∧ s.ac.queue = [] ∧ s.ac.cell = none := by decide

/-- The complete instance of timedService, and the same one pass short. -/
theorem witness_LabelStepsExpire_own :
    let short : LabelRun := { timedService.label.run with passCount := 1 }
    running.modes.mode = .running ∧ (inMode .holding .idle).modes.mode ≠ .running ∧ timedService ∈ [timedService, serviceB] ∧ ([timedService, serviceB].map (·.sid)).Nodup ∧
      timedService.annex.mode = .own ∧ timedService.label.buffer = some roadLabel ∧ roadLabel.enabled = true ∧
      roadLabel.scrolls = true ∧ roadLabel.passes ≤ timedService.label.run.passCount ∧ short.passCount < roadLabel.passes := by
  decide

theorem witness_LabelStepsExpire_alert :
    let a := buildAlert [] (List.replicate 31 0x41) 16 1 0 false
    running.modes.mode = .running ∧ takenService ∈ [takenService, serviceB] ∧ ([takenService, serviceB].map (·.sid)).Nodup ∧
      takenService.annex.mode = .alert ∧ takenService.label.alert = some a ∧ a.params.scrolls = true ∧
      a.params.reversed = false ∧ a.run.passCount < a.params.passes ∧
      a.params.passes ≤ LabelRun.passCount { a.run with passCount := 1 } := by decide

theorem witness_DwellExpires :
    let s : State := { running with services := [timedService, serviceB] }
    s.modes.mode = .running ∧ (inMode .holding .idle).modes.mode ≠ .running ∧ timedService ∈ s.services ∧ (s.services.map (·.sid)).Nodup ∧ timedService.annex.mode = .own ∧
      timedService.picture.carousel = .dwelling ∧ takenService.annex.mode = .alert ∧
      serviceB.picture.carousel ≠ .dwelling := by decide

/-- A usable silence frame and a too long one; an alert frame that fits and one that does not; the outcomes of an alert slot; a
LOOP region of two frames at its last; and a RUNNING cut-off with a service. -/
theorem witness_AudioDecided :
    let slot (phase : SlotPhase) : SlotRead :=
      { phase := phase, outcome := .none, held := some (slotHeaderOf header301), buffer := [7] }
    let good : State := { running with alertSlot := some { slot := slot .good, base := 0, depth := 2, size := 3840 } }
    let quiet : SlotRead := { phase := .good, outcome := .none, held := some (slotHeaderOf [0, 0, 0, 0, 1]), buffer := [] }
    let silent : State := { running with alertSlot := some { slot := quiet, base := 0, depth := 2, size := 3840 } }
    let late : State := { running with alertSlot := some { slot := slot .fetch, base := 0, depth := 2, size := 3840 } }
    let frames : List (List Byte) := [[7, 8, 9], [4]]
    let loop : State := { running with ss := { running.ss with
      loop := { Region.reset with state := .valid, bytes := loopBytes frames }, frameCount := 2, loopIndex := 1 } }
    (([1, 2] : List Byte).length ≤ 382 ∧ 2 < ([1, 2, 3] : List Byte).length) ∧
      good.alertSlot.map (fun a => a.slot.result) = some (.good (slotHeaderOf header301) [7]) ∧
      silent.alertSlot.map (fun a => a.slot.result) = some (.goodSilent (slotHeaderOf [0, 0, 0, 0, 1])) ∧
      late.alertSlot.map (fun a => a.slot.result) = some (.late .slow) ∧ running.alertSlot = none ∧
      running.ss.loop.state ≠ .valid ∧
      (loop.ss.loop.state = .valid ∧ loop.ss.loop.bytes = loopBytes frames ∧ frames.length ≤ 16 ∧
        (∀ x ∈ frames, 1 ≤ x.length ∧ x.length ≤ 3838) ∧ loop.ss.frameCount = frames.length ∧
        frames[loop.ss.loopIndex]? = some [4]) ∧
      (quiet.phase = .good ∧ (slot .overlong).phase = .overlong ∧ (slot .confirm).phase = .confirm ∧ (slot .idle).phase = .idle) ∧
      running.modes.mode = .running ∧ running.ft.cutOffMade = false ∧ running.pm.state ≠ .countdown ∧
      (running.services.map (·.sid)).Nodup ∧ (running.entries.map (·.sid)).Nodup ∧ serviceA ∈ running.services ∧
      running.entryOf serviceA.sid = some entryA := by decide

/-- RUNNING with services whose repeat buffer and whose slot's payload just fit the field, one of them with NO_ANNEX. -/
def filled : State :=
  let full : SlotRead := { phase := .good, outcome := .none, buffer := zeros 382
                           held := some { stamp := 0, len := 382, silent := false, noAnnex := true } }
  { running with services :=
      [{ serviceA with contribution := { serviceA.contribution with repeatBuffer := some (zeros 382) } },
       { serviceB with slot := some full }] }

theorem filled_sound : ServicesSound filled where
  followPlan p h := by cases h; rfl
  repeatFits v hv e he b hb := by
    simp only [filled, List.mem_cons, List.not_mem_nil, or_false] at hv
    obtain rfl | rfl := hv
    · cases he; cases hb; simp [zeros, entryA]
    · cases hb
  payloadFits v hv e he r h hr hh _ := by
    simp only [filled, List.mem_cons, List.not_mem_nil, or_false] at hv
    obtain rfl | rfl := hv
    · cases hr; cases hh
    · cases he; cases hr; cases hh; decide

/-- The longest audio of a field, and none; a cut-off with both services, one of which permits no packets; and a cell that no entry
owns. -/
theorem witness_FieldIsFilled :
    ((List.replicate 382 (0 : Byte)).length + 2 ≤ 32 * entryA.cells ∧ ([] : List Byte).length + 2 ≤ 32 * entryA.cells) ∧
      filled.modes.mode = .running ∧ filled.ft.cutOffMade = false ∧ filled.pm.active = .ready plan7 ∧ PlanSound plan7 ∧
      ServicesSound filled ∧ filled.services.map (fun v => (handedOver filled entryB v).2) = [true, false] ∧
      (24 < 600 ∧ ∀ e ∈ plan7.entries, 24 < e.start ∨ e.start + e.cells ≤ 24) :=
  ⟨by simp only [entryA, List.length_replicate, List.length_nil]; decide, rfl, rfl, rfl, plan7_sound, filled_sound,
    by decide +kernel, by decide⟩

theorem fullQueue_sound : QueueSound fullQueue := ⟨by decide, by decide, by decide, by decide, by decide⟩

/-- A queue with an entry that announces before one that waits, and one whose entry is RELEASING. -/
def shortQueue (st : EntryState) : AlertController :=
  { AlertController.reset with queue := [queued 1 2 0 st, queued 2 1 1 .waiting], nextOrder := 2 }

theorem shortQueue_sound :
    QueueSound (shortQueue .announcing) ∧ QueueSound (shortQueue .releasing) :=
  ⟨⟨by decide, by decide, by decide, by decide, by decide⟩, ⟨by decide, by decide, by decide, by decide, by decide⟩⟩

/-- An ALERT into room, into a full queue at the level of the entry that goes and above it, one that updates an entry in RELEASING and
one in another state; a CLEAR of an entry in each state, and of none. -/
theorem witness_AlertRequestsApplied :
    let matches_ (r : AlertRequest) (e : AlertEntry) : Prop := e.key = (r.source, r.alertId)
    (QueueSound fullQueue ∧ QueueSound (shortQueue .announcing) ∧ QueueSound (shortQueue .releasing)) ∧
      (∀ e ∈ fullQueue.queue, ¬ matches_ (request false 5 2) e) ∧ (request false 5 2).isClear = false ∧
      (∀ e ∈ (shortQueue .announcing).queue, ¬ matches_ (request false 5 2) e) ∧
      (shortQueue .announcing).queue.length < 4 ∧ fullQueue.queue.length = 4 ∧
      (displaced fullQueue.queue = some (queued 4 1 3 .waiting) ∧ (queued 4 1 3 .waiting).level < (request false 5 2).level ∧
        (request false 6 1).level ≤ (queued 4 1 3 .waiting).level) ∧
      (queued 1 2 0 .active ∈ fullQueue.queue ∧ matches_ (request false 1 3) (queued 1 2 0 .active) ∧
        matches_ (request true 1 0) (queued 1 2 0 .active) ∧ (request true 1 0).isClear = true) ∧
      (queued 1 2 0 .releasing ∈ (shortQueue .releasing).queue ∧ matches_ (request false 1 3) (queued 1 2 0 .releasing)) ∧
      (queued 2 2 1 .waiting ∈ fullQueue.queue ∧ matches_ (request true 2 0) (queued 2 2 1 .waiting)) ∧
      queued 1 2 0 .announcing ∈ (shortQueue .announcing).queue ∧
      (∀ e ∈ fullQueue.queue, ¬ matches_ (request true 9 0) e) :=
  ⟨⟨fullQueue_sound, shortQueue_sound⟩, by decide, by decide, by decide, by decide, by decide, by decide, by decide, by decide,
    by decide, by decide, by decide⟩

/-- The start sequence's root read: a good area, one with plan address 0, and one with no signature. -/
theorem witness_RootReadCompletes :
    Reading .rootRead 0 128 (onBus .rootRead none 128 (inMode .starting .rootRead)) ∧
      (onBus .rootRead none 128 (inMode .starting .rootRead)).modes.mode = .starting ∧
      rootBytes.length = 128 ∧ rootBytes.take 4 = [0x55, 0x46, 0x24, 0x60] ∧ (rootValues rootBytes).planAddr ≠ 0 ∧
      ((zeros 128).length = 128 ∧ (zeros 128).take 4 ≠ [0x55, 0x46, 0x24, 0x60]) ∧
      (rootSignature ++ zeros 124).length = 128 ∧ (rootSignature ++ zeros 124).take 4 = [0x55, 0x46, 0x24, 0x60] ∧
      (rootValues (rootSignature ++ zeros 124)).planAddr = 0 :=
  ⟨reading_onBus _ _ _, by decide⟩

theorem witness_RootPollCompletes :
    let s := onBus .rootPoll none 128 running
    let slow := onBus .rootPoll none 128 { running with alr := { running.alr with state := .hunt, rate := .baud2400 } }
    (Reading .rootPoll 0 128 s ∧ Reading .rootPoll 0 128 slow) ∧ rootBytes.length = 128 ∧
      rootBytes.take 4 = [0x55, 0x46, 0x24, 0x60] ∧ (zeros 128).take 4 ≠ [0x55, 0x46, 0x24, 0x60] ∧
      s.cp.seen = some { plan := rootTaken.planSeq, cell := rootTaken.cellSeq, standby := rootTaken.standbySeq } ∧
      (LineRate.ofCode rootTaken.rateCode = some .baud9600 ∧ LineRate.baud9600 = s.alr.rate) ∧
      LineRate.baud9600 ≠ slow.alr.rate ∧ slow.alr.state = .hunt :=
  ⟨⟨reading_onBus _ _ _, reading_onBus _ _ _⟩, by decide⟩

/-- The plan sequence last seen is 1, and the poll brings 0 with the plan address 0x2000, or 0, in each plan state. -/
theorem witness_PlanRequestTaken :
    let old : SeenSequences := { plan := 1, cell := 0, standby := 0 }
    let poll (s : State) : State := onBus .rootPoll none 128 { s with cp := { s.cp with seen := some old } }
    let behind : State := { planning .countdown (.ready plan7) 4 none with
      pm := { (planning .countdown (.ready plan7) 4 none).pm with held := some 0x3000 } }
    (∀ s, Reading .rootPoll 0 128 (poll s) ∧ (poll s).cp.seen = some old ∧ (poll s).pm = s.pm) ∧ rootBytes.length = 128 ∧
      rootBytes.take 4 = [0x55, 0x46, 0x24, 0x60] ∧ rootTaken.planSeq ≠ old.plan ∧
      rootTaken.cellSeq = old.cell ∧ rootTaken.standbySeq = old.standby ∧ rootTaken.planAddr ≠ 0 ∧
      (rootValues (rootSignature ++ zeros 124)).planAddr = 0 ∧ (rootSignature ++ zeros 124).length = 128 ∧
      (running.pm.state = .idle ∧ running.pm.staged = .empty) ∧
      (planning .idle (.ready plan7) 0 none).pm.staged = .ready plan7 ∧
      (planning .loading .filling 0 none).pm.state = .loading ∧
      5 ≤ (planning .countdown (.ready plan7) 5 none).pm.countdown ∧
      ((planning .countdown (.ready plan7) 4 none).pm.countdown ≤ 4 ∧
        (planning .countdown (.ready plan7) 4 none).pm.held = none) ∧
      (behind.pm.countdown ≤ 4 ∧ behind.pm.held ≠ none) ∧
      (planning .cancelling (.ready plan7) 7 (some 0)).pm.state = .cancelling :=
  ⟨fun s => ⟨reading_onBus _ _ _, rfl, rfl⟩, by decide⟩

/-- A root control area whose alert cell has a type, a level, a text address and a text length. -/
def cellBytes (type level : Byte) (addr : Byte) (len : Byte) : List Byte :=
  rootSignature ++ zeros 14 ++ [type, 17, level, 5, 0, 60, 0, 0, 0, addr, 0, len] ++ zeros 98

/-- A root control area whose standby request has a region and a length. -/
def standbyBytes (region : Byte) (len : Nat) : List Byte := rootSignature ++ zeros 30 ++ [region] ++ zeros 7 ++ be 2 len ++ zeros 84

/-- The cell sequence last seen is 1, and the poll brings 0: no type, a CLEAR, ALERTs of level 0 and 4, and ALERTs whose text has
address 0, length 0, and both. The standby sequence last seen is 1: regions 0 and 5, and each region at its size and one over; behind
a load, behind a request, and blocked. A request that waits at a load's end, and at a cut-off. -/
theorem witness_CellAndStandbyRequestsTaken :
    let cellOld : SeenSequences := { plan := 0, cell := 1, standby := 0 }
    let standbyOld : SeenSequences := { plan := 0, cell := 0, standby := 1 }
    let poll (old : SeenSequences) (s : State) : State := onBus .rootPoll none 128 { s with cp := { s.cp with seen := some old } }
    let announcing : State := { running with ac := shortQueue .announcing }
    let q (r : RegionId) : StandbyRequest := { region := r, addr := 0, len := 1, sequence := 42 }
    let behind (s : State) (r : RegionId) : State := { s with ss := { s.ss with pending := some (q r) } }
    (∀ old s, Reading .rootPoll 0 128 (poll old s) ∧ (poll old s).cp.seen = some old) ∧
      (∀ t ∈ [(0 : Byte), 1, 2], ∀ l ∈ [(0 : Byte), 1, 3, 4], ∀ a ∈ [(0 : Byte), 7], ∀ n ∈ [(0 : Byte), 255],
        let b := cellBytes t l a n
        let v := rootValues b
        b.length = 128 ∧ b.take 4 = [0x55, 0x46, 0x24, 0x60] ∧ v.planSeq = cellOld.plan ∧ v.cellSeq ≠ cellOld.cell ∧
          v.standbySeq = cellOld.standby ∧ v.cellType = t ∧ v.cellLevel = l ∧ (v.cellTextAddr = 0 ↔ a = 0) ∧
          (v.cellTextLen = 0 ↔ n = 0)) ∧
      (∀ x ∈ [((0 : Byte), 0), (1, 0), (1, 4096), (1, 4097), (2, 40960), (2, 40961), (3, 16384), (3, 16385), (4, 256), (4, 257),
          (5, 0)],
        let b := standbyBytes x.1 x.2
        let v := rootValues b
        b.length = 128 ∧ b.take 4 = [0x55, 0x46, 0x24, 0x60] ∧ v.planSeq = standbyOld.plan ∧ v.cellSeq = standbyOld.cell ∧
          v.standbySeq ≠ standbyOld.standby ∧ v.standbyRegion = x.1 ∧ v.standbyLen = x.2) ∧
      (running.ss.pending = none ∧ running.ss.load = none) ∧ (loading .text 5).ss.load ≠ none ∧
      (∃ e ∈ announcing.ac.queue, e.state = .announcing ∨ e.state = .active) ∧
      (∀ s r, Reading .standby 0 1 (onBus .standby none 1 (behind s r))) ∧
      (behind (loading .text 5) .loop).ss.load.isSome = true ∧ (behind running .loop).ss.pending = some (q .loop) ∧
      (running.inAssembly = true ∧ running.ft.cutOffMade = false ∧ (behind running .loop).ss.load = none) :=
  ⟨fun _ _ => ⟨reading_onBus _ _ _, rfl⟩, by decide +kernel, by decide +kernel, by decide, by decide, by decide,
    fun _ _ => reading_onBus _ _ _, by decide, by decide, by decide⟩

/-- The 64 bytes of an entry that passes validation, and of one whose ring depth is 1. -/
def entryBytes (depth : Byte) : List Byte :=
  [1, 12, 0, 0, 0x03, 0x01, 1, 0, 0, 0, 1, 0, 0, depth] ++ zeros 50

/-- The header of the plan of such an entry. -/
def headerFor (depth : Byte) : PlanHeader := { number := 9, count := 1, check := crc16 (entryBytes depth) }

/-- Headers of a plan of no entries and of one; 256 of the 320 bytes of a plan of five; entries that pass and that fail. -/
theorem witness_PlanLoadCompletes :
    let l (toActive : Bool) (h : Option PlanHeader) (b : List Byte) : PlanLoad :=
      { toActive := toActive, addr := 0x2000, header := h, bytes := b }
    let s (toActive : Bool) (h : Option PlanHeader) (b : List Byte) : State := { running with
      pm := { running.pm with state := .loading, staged := .filling, load := some (l toActive h b) } }
    let five : PlanHeader := { number := 9, count := 5, check := 0 }
    (∀ active h b n, Reading .planLoad 0 n (onBus .planLoad none n (s active h b)) ∧
        (s active h b).pm.load = some (l active h b)) ∧
      (∀ active, (l active none []).header = none ∧ (l active none []).bytes = [] ∧ (l active none []).toActive = active) ∧
      ([9, 1] ++ zeros 14 : List Byte).length = 16 ∧
      1 ≤ (planHeaderOf ([9, 1] ++ zeros 14)).count ∧ (planHeaderOf ([9, 0] ++ zeros 14)).count = 0 ∧
      ([] ++ zeros 256).length < 64 * five.toRead ∧ (zeros 256 ++ zeros 64).length = 64 * five.toRead ∧
      ([] ++ entryBytes 8).length = 64 * (headerFor 8).toRead ∧ planFailure (headerFor 8) ([] ++ entryBytes 8) = none ∧
      planFailure (headerFor 1) ([] ++ entryBytes 1) = some .ring := by
  refine ⟨fun _ _ _ _ => ⟨reading_onBus _ _ _, rfl⟩, fun _ => ⟨rfl, rfl, rfl⟩, by decide, by decide, by decide, ?_, ?_, by decide,
    by decide +kernel, by decide +kernel⟩ <;> simp [zeros, PlanHeader.toRead]

theorem witness_StatusWritebackCompletes :
    let snap : Snapshot := { addr := 0x8000, body := zeros 892 }
    let s (part : Nat) : State := { running with
      sw := { running.sw with state := .writing, part := part, current := some snap } }
    (∀ part, Writing .status 0 (onBus .status (some [0, 0, 0, 1]) 4 (s part)) ∧ (s part).sw.current = some snap ∧
      (s part).sw.held = none) ∧ snap.body.length = 892 ∧ (s 0).sw.part < 5 ∧ (s 4).sw.part < 5 ∧ (s 5).sw.part = 5 :=
  ⟨fun _ => ⟨writing_onBus _ _ _ _, rfl, rfl⟩, by simp only [zeros, List.length_replicate]; decide⟩

/-- Headers of frame 0: silent, empty, of Lmax, over it, and one of frame 992. -/
theorem witness_SlotHeaderJudged :
    let k : SlotKey := .service 0x0301
    let s := onBus (.slotHeader k) none 5 (slotIn .header 0)
    let p : SlotPlace := { addr := 0x10000, limit := 382 }
    Reading (.slotHeader k) 0 5 s ∧ (s.slotRead k).isSome = true ∧ s.slotPlace k = some p ∧
      s.ft.nextSerial.setWidth 16 = 0#16 ∧ (slotHeaderOf [3, 0xE0, 1, 45, 0]).stamp ≠ 0#16 ∧
      ((slotHeaderOf [0, 0, 1, 45, 1]).stamp = 0#16 ∧ (slotHeaderOf [0, 0, 1, 45, 1]).silent = true) ∧
      (slotHeaderOf [0, 0, 0, 0, 0]).len = 0 ∧
      ((slotHeaderOf [0, 0, 1, 127, 0]).silent = false ∧ p.limit < (slotHeaderOf [0, 0, 1, 127, 0]).len) ∧
      (1 ≤ (slotHeaderOf [0, 0, 1, 126, 0]).len ∧ (slotHeaderOf [0, 0, 1, 126, 0]).len ≤ p.limit) ∧
      (1 ≤ (slotHeaderOf [0, 0, 0, 1, 0]).len) :=
  ⟨reading_onBus _ _ _, by decide, rfl, by decide⟩

theorem witness_SlotFetchedAndConfirmed :
    let k : SlotKey := .service 0x0301
    let h := slotHeaderOf header301
    (Reading (.slotPayload k) 0 (zeros 256).length (onBus (.slotPayload k) none (zeros 256).length (slotIn .fetch 0)) ∧
      Reading (.slotPayload k) 0 (zeros 45).length (onBus (.slotPayload k) none (zeros 45).length (slotIn .fetch 256)) ∧
      Reading (.slotConfirm k) 0 5 (onBus (.slotConfirm k) none 5 (slotIn .confirm 301))) ∧
      ((slotIn .fetch 0).slotRead k).bind (·.held) = some h ∧ ((slotIn .fetch 0).slotPlace k).isSome = true ∧
      0 + (zeros 256).length < h.len ∧ h.len ≤ 256 + (zeros 45).length ∧ header301.length = 5 ∧
      slotHeaderOf header301 = h ∧ slotHeaderOf [0, 0, 1, 40, 0] ≠ h :=
  ⟨⟨reading_onBus _ _ _, reading_onBus _ _ _, reading_onBus _ _ _⟩, by decide, by decide, by decide⟩

theorem witness_SlotReadFails :
    let k : SlotKey := .service 0x0301
    let s := onBus (.slotPayload k) none 45 (slotIn .fetch 256)
    (s.mp.slotOf (.slotPayload k) = some 0 ∧ s.mp.slots[0] = some (flight (.slotPayload k) none 45 false)) ∧
      s.mp.completing = false ∧ (s.slotRead k).isSome = true ∧ (s.slotPlace k).isSome = true :=
  ⟨⟨onBus_slotOf _ _ _ _, onBus_slot _ _ _ _⟩, by decide⟩

/-- A service whose received copy has revision 4. -/
def labelledService : Service :=
  { serviceA with label := { serviceA.label with received := some { params := roadLabel, revision := 4 } } }

theorem witness_LabelRecordRead :
    let s : State := { running with services := [labelledService] }
    (Reading (.labelPoll 0x0301) 0 16 (onBus (.labelPoll 0x0301) none 16 s) ∧
      Reading (.labelFetch 0x0301) 0 210 (onBus (.labelFetch 0x0301) none 210 s)) ∧
      (s.serviceOf 0x0301).isSome = true ∧ running.serviceOf 0x0301 = some serviceA ∧ s.entryOf 0x0301 = some entryA ∧
      (serviceA.label.buffer = none ∧ serviceA.label.received = none) ∧
      (([0, 5] ++ zeros 14 : List Byte).length = 16 ∧ u16At ([0, 5] ++ zeros 14) 0 ≠ 4) ∧
      u16At ([0, 4] ++ zeros 14) 0 = 4 ∧ labelledService.label.received.map (·.revision) = some 4 ∧
      ((zeros 210).length = 210 ∧ u16At (zeros 210) 0 = u16At (zeros 210) 208) ∧
      u16At ([0, 1] ++ zeros 208) 0 ≠ u16At ([0, 1] ++ zeros 208) 208 :=
  ⟨⟨reading_onBus _ _ _, reading_onBus _ _ _⟩, by decide⟩

/-- Lists of count 0 and of count 255; entries of length 63 and 64, the first with no other and with another to try. -/
theorem witness_PictureSelection :
    let picture (n : Nat) : PictureState := { serviceA.picture with count := n }
    let entry (len : Nat) : List Byte := be 5 0x50000 ++ zeros 3 ++ be 4 len ++ be 2 2 ++ [1, 1] ++ be 2 9 ++ zeros 14
    (Reading (.listHeader 0x0301) 0 16 (onBus (.listHeader 0x0301) none 16 running) ∧
      Reading (.listEntry 0x0301) 0 32 (onBus (.listEntry 0x0301) none 32 running)) ∧
      running.serviceOf 0x0301 = some serviceA ∧ min 8 (byteAt ([0, 5, 0] ++ zeros 13) 2).toNat = 0 ∧
      1 ≤ min 8 (byteAt ([0, 5, 255] ++ zeros 13) 2).toNat ∧ ((entry 64).length = 32 ∧ (listEntryOf (entry 64)).eligible = true) ∧
      (listEntryOf (entry 63)).eligible = false ∧ (picture 1).count ≤ (picture 1).skips + 1 ∧
      (picture 2).skips + 1 < (picture 2).count :=
  ⟨⟨reading_onBus _ _ _, reading_onBus _ _ _⟩, by decide⟩

theorem witness_RefillReads :
    let s : State := { running with services := [sendingEntry2, serviceB] }
    let p := sendingEntry2.picture
    (Reading (.refillRecord 0x0301) 0 32 (onBus (.refillRecord 0x0301) none 32 s) ∧
      Reading (.refillData 0x0301) 0 (zeros 90).length (onBus (.refillData 0x0301) none (zeros 90).length s)) ∧
      sendingEntry2 ∈ s.services ∧ (s.services.map (·.sid)).Nodup ∧
      ((zeros 32).length = 32 ∧ u16At (zeros 32) 16 ≠ p.passRevision) ∧
      u16At (zeros 16 ++ [0, 9] ++ zeros 14) 16 = p.passRevision ∧
      1 ≤ min (240 - p.staging.length) (p.object.len - (p.pass.offset + p.staging.length)) ∧
      min (240 - 240) (p.object.len - (p.pass.offset + 240)) = 0 :=
  ⟨⟨reading_onBus _ _ _, reading_onBus _ _ _⟩, by decide⟩

theorem witness_AlertTextRead :
    let s : State := { running with ac := { running.ac with cell := some fetchingCell } }
    Reading .alertText 0 ([0x46] : List Byte).length (onBus .alertText none 1 s) ∧ s.ac.cell = some fetchingCell ∧
      (onBus .alertText none 1 s).mp.slots[0] = some (flight .alertText none 1 false) :=
  ⟨reading_onBus _ _ _, rfl, rfl⟩

/-- The middle and the last transfer of a load of 257 bytes; SILENCE of 3,838 and of 3,839; LOOP bytes that are frames, and that are
none. -/
theorem witness_StandbyLoadTransfers :
    let l (r : RegionId) (len copied : Nat) : StandbyLoad :=
      { request := { region := r, addr := 0x60000, len := len, sequence := 41 }, copied := copied }
    let s (r : RegionId) (len copied : Nat) : State := { loading r len with ss := { (loading r len).ss with
      load := some (l r len copied) } }
    (∀ r len copied n, Reading .standby 0 n (onBus .standby none n (s r len copied)) ∧ (s r len copied).ss.load = some (l r len copied) ∧
        (l r len copied).request.region = r ∧ (l r len copied).request.len = len) ∧
      (∀ r ∈ [RegionId.silence, .loop, .picture, .text], (s r 257 0).ss.pending = none) ∧
      0 + (zeros 256).length < 257 ∧ 257 ≤ 256 + ([7] : List Byte).length ∧ 3838 ≤ 3838 ∧ 3838 < 3839 ∧
      (let fs : List (List Byte) := [[7, 8, 9], [4]]
       fs ≠ [] ∧ fs.length ≤ 16 ∧ (∀ f ∈ fs, 1 ≤ f.length ∧ f.length ≤ 3838) ∧
        ([] : List Byte) ++ [0, 3, 7, 8, 9, 0, 1, 4] = loopBytes fs) ∧
      ¬ ∃ fs : List (List Byte), fs ≠ [] ∧ fs.length ≤ 16 ∧ (∀ f ∈ fs, 1 ≤ f.length ∧ f.length ≤ 3838) ∧
        ([] : List Byte) ++ [] = loopBytes fs := by
  refine ⟨fun _ _ _ _ => ⟨reading_onBus _ _ _, rfl, rfl, rfl⟩, by decide, by simp [zeros], by decide, by decide, by decide, by decide, ?_⟩
  rintro ⟨fs, hne, -, -, h⟩
  cases fs with
  | nil => exact hne rfl
  | cons f fs => simp [loopBytes, be] at h

/-- Edges and start bits, in their states and out of them; bytes with 31 and with 32 entries in the FIFO. -/
theorem witness_LineBitsJudged :
    let edge := line .start false []
    let zero : ByteSamples := { data := Vector.replicate 8 (level false), parity := level false, stop := level false }
    let ones (x : BitSamples) : Nat := x.s7.toNat + x.s8.toNat + x.s9.toNat
    let counting (n : Nat) (fifo : List FifoEntry) : State :=
      let s := line .hunt true fifo
      { s with alr := { s.alr with idleCount := n } }
    let full := List.replicate 32 idleMarkerEntry
    ((counting 318 []).alr.state = .hunt ∧ (counting 318 []).alr.armed = true ∧ samplesCounted 1 (counting 318 []) = counting 319 [] ∧
      (samplesCounted 2 (counting 318 [])).alr.fifo = [idleMarkerEntry] ∧ (samplesCounted 2 (counting 318 full)).alr.lost = 1 ∧
      (samplesCounted 9 (line .start true [])).alr.idleCount = 9 ∧ (line .start true []).alr.state = .start) ∧
    ((line .hunt false []).alr.armed = false ∧ (line .hunt false []).alr.state = .hunt ∧
      (line .hunt false []).alr.lastSample = false ∧ (edge.alr.armed = false ∧ edge.alr.state = .start) ∧
      ones { s7 := true, s8 := false, s9 := false } ≤ 1 ∧ 2 ≤ ones { s7 := true, s8 := true, s9 := false } ∧
      (line .receiving false []).alr.state ≠ .start) ∧
    ((line .receiving false []).alr.state = .receiving ∧
      (line .receiving false (List.replicate 31 idleMarkerEntry)).alr.fifo.length < 32 ∧
      32 ≤ (line .receiving false (List.replicate 32 idleMarkerEntry)).alr.fifo.length) ∧
      (line .hunt false []).alr.state ≠ .receiving ∧ (line .breakWait false []).alr.state = .breakWait ∧
      (line .hunt false []).alr.state ≠ .breakWait ∧ 2 ≤ ones byteA5.stop ∧ ¬ 2 ≤ ones zero.stop ∧
      dataByte byteA5.data ≠ 0 ∧ dataByte zero.data = 0 ∧ ¬ 2 ≤ ones zero.parity := by decide

/-- 31 and 32 entries; a last sample that was low; and samples that take the idle count to 319 and to 320. -/
theorem witness_IdleMarkerCompletes :
    (line .hunt true []).alr.state = .hunt ∧ (line .hunt true []).alr.armed = true ∧
      (line .hunt true []).alr.lastSample = false ∧
      (line .hunt true (List.replicate 31 idleMarkerEntry)).alr.fifo.length < 32 ∧
      32 ≤ (line .hunt true (List.replicate 32 idleMarkerEntry)).alr.fifo.length ∧
      (0 < 318 ∧ (line .hunt true []).alr.idleCount + 318 + 1 < 320) ∧
      320 ≤ (line .hunt true []).alr.idleCount + 319 + 1 := by decide

theorem witness_ParserTakesEntry :
    let s (st : ParserState) (e : FifoEntry) : State :=
      { line .hunt true [e] with tgp := { running.tgp with state := st } }
    running.alr.fifo = [] ∧ (s .hold breakMark).tgp.state = .hold ∧
      ((s .hunt breakMark).alr.fifo = breakMark :: [] ∧ breakMark.isBreak = true ∧ (s .marker breakMark).tgp.state = .marker) ∧
      (s .body breakMark).tgp.state = .body ∧ ((clean 0).isBreak = false ∧ (s .hunt (clean 0)).tgp.state = .hunt) ∧
      FifoEntry.overrunBefore { clean 0 with overrunBefore := true } = true ∧
      (idleMarkerEntry.overrunBefore = false ∧ idleMarkerEntry.value = none) ∧
      (FifoEntry.framing { clean 0 with framing := true } = true) ∧
      (FifoEntry.parity { clean 0 with parity := true } = true) ∧ FifoEntry.noise { clean 0 with noise := true } = true := by
  decide

/-- The bytes 8, 9, 137 and 138 as N; and telegrams that pass as an ALERT and as a TEST, or fail each check. -/
theorem witness_TelegramAssembled :
    let s := parsing .check floodBody [byteAt floodCrc 0] (byteAt floodCrc 1)
    s.alr.fifo = clean (byteAt floodCrc 1) :: [] ∧ s.tgp.crc.length = 1 ∧
      (parsing .marker [] [] 0xA5).tgp.state = .marker ∧ (parsing .check floodBody [] 0).tgp.crc = [] ∧
      (9 ≤ (9 : Byte).toNat ∧ (137 : Byte).toNat ≤ 137) ∧ (8 : Byte).toNat < 9 ∧ 137 < (138 : Byte).toNat ∧
      (let codes : List U16 := [0x0310]
       telegramFailure 14 floodBody floodCrc codes = none ∧ telegramFailure 15 floodBody floodCrc codes = some .format ∧
        telegramFailure 14 floodBody [0, 0] codes = some .check ∧ telegramFailure 14 floodBody floodCrc [] = some .area ∧
        (let zeroLevel : List Byte := [1, 17, 0, 5, 0x03, 0x10, 0, 60, 5, 0x46, 0x4C, 0x4F, 0x4F, 0x44]
         telegramFailure 14 zeroLevel (be16 (crc16 (14 :: zeroLevel))) codes = some .level) ∧
        (let test : List Byte := [3, 17, 0, 5, 0xFF, 0xFF, 0, 60, 5, 0x46, 0x4C, 0x4F, 0x4F, 0x44]
         telegramFailure 14 test (be16 (crc16 (14 :: test))) codes = none)) := by decide

theorem witness_GrantTakesFront :
    running.mp.waiting = [] ∧ (State.reset.mp.quietEnd ≠ none) ∧
      (∀ k : Fin 8, (Vector.replicate 8 (some (flight .rootPoll none 128 false)))[k] ≠ none) ∧
      (queuedUp.mp.quietEnd = none ∧ queuedUp.mp.waiting ≠ [] ∧ queuedUp.mp.slots[(0 : Fin 8)] = none) ∧
      (let s := onBus .rootPoll none 128 running
       s.mp.slots[(1 : Fin 8)] = none ∧ ∀ k : Fin 8, k < 1 → s.mp.slots[k] ≠ none) := by decide

theorem witness_PromotionAndQuietEnd :
    (∀ r ∈ running.mp.waiting, r.cls ≠ .bulk) ∧
      (let s : State := { queuedUp with mp := { queuedUp.mp with waiting := waitingList.reverse } }
       s.mp.waiting = waitingList.reverse.take 2 ++ waitingList[0] :: [] ∧
        (∀ x ∈ waitingList.reverse.take 2, x.cls ≠ .bulk) ∧ waitingList[0].cls = .bulk) ∧
      queuedUp.mp.quietEnd = none ∧ State.reset.mp.quietEnd = some 4000 := by decide

theorem witness_ResponsesMatchTheirSlot :
    let s := onBus .alertText none 1 { running with ac := { running.ac with cell := some fetchingCell } }
    let f := flight .alertText none 1 false
    let gone := flight .rootPoll none 128 true
    (s.mp.slots[0] = some f ∧ f.grant ≠ 6 ∧ f.grant = 5 ∧ s.mp.slots[1] = none) ∧ (gone.grant = 5 ∧ gone.withdrawn = true) ∧
      f.withdrawn = false ∧ f.request.purpose = .alertText ∧ f.request.data = none ∧
      f.request.len = ([0x46] : List Byte).length ∧ s.mp.completing = false ∧ s.ac.cell = some fetchingCell := by decide

/-- A FIFO that is full, at an IDLE marker, with a request of one byte waiting and one of 256 on the bus. -/
theorem witness_FifoAndRequestsStayBounded :
    let s : State := onBus .rootPoll none 256 (line .hunt true (List.replicate 32 idleMarkerEntry))
    let t : State := { s with pending := [.idleMarker], mp := { s.mp with waiting := waitingList.drop 2 } }
    FifoBounded t ∧ BurstsBounded t ∧ ∃ u, step t = .next u :=
  ⟨by unfold FifoBounded; decide, ⟨by unfold Request.WithinBurst; decide, fun f h => by
    have : some f ∈ some (flight .rootPoll none 256 false) :: List.replicate 7 none := h
    simp only [List.mem_cons, Option.some.injEq, List.mem_replicate, reduceCtorEq, and_false, or_false] at this
    subst this; unfold Request.WithinBurst; decide⟩, _, rfl⟩

/-- At a cut-off that decides audio which just fits. -/
theorem witness_ServicesStaySound :
    let s : State := { filled with pending := [.cutOff] }
    PlansSound s ∧ ServicesSound s ∧ ∃ t, step s = .next t :=
  ⟨⟨fun _ h => by cases h; exact plan7_sound, fun _ h => by cases h⟩, ⟨filled_sound.1, filled_sound.2, filled_sound.3⟩, _, rfl⟩

theorem witness_AlertQueueStaysSound :
    let s : State := { running with
      ac := fullQueue
      pending := [.cutOff] }
    QueueSound s.ac ∧ ∃ t, step s = .next t := ⟨fullQueue_sound, _, rfl⟩

/-- A label credit at its bound of 8 quanta. -/
theorem witness_CreditsStayBounded :
    let v : Service := { serviceA with annex := { serviceA.annex with labelCredit := 2624 } }
    let s : State := { running with
      services := [v]
      pending := [.cutOff] }
    CreditsBounded s ∧ ∃ t, step s = .next t := by
  exact ⟨by unfold CreditsBounded; decide, _, rfl⟩

/-- At the switch, and at the highest countdown. -/
theorem witness_PlansAndCountdownStaySound :
    let s (countdown : Nat) : State := { planning .countdown (.ready plan7) countdown none with pending := [.cutOff] }
    (∀ k, PlansSound (s k) ∧ ∃ t, step (s k) = .next t) ∧ CountdownSound (s 1) ∧ CountdownSound (s 16) :=
  ⟨fun _ => ⟨⟨fun _ h => by cases h; exact plan7_sound, fun _ h => by cases h; exact plan7_sound⟩, _, rfl⟩,
    by unfold CountdownSound; decide, by unfold CountdownSound; decide⟩

/-- STOPPED with the closing write-back waiting, at the end of the quiet time. -/
theorem witness_StoppedStaysAtRest :
    let s : State := { State.reset with
      mp := { State.reset.mp with waiting := waitingList.drop 2 }
      pending := [.quietTimeEnd] }
    s.modes.mode = .stopped ∧ StoppedAtRest s ∧ ∃ t, step s = .next t :=
  ⟨rfl, ⟨rfl, rfl, rfl, by decide, by decide, by decide, rfl, by decide, rfl, by decide,
    by intro f h; simp [State.reset, MemoryPort.resetAt] at h⟩, _, rfl⟩

end Sys2Proof.Tests
end

section
/-! Every credit counter stays within 8 times its quantum in force (R86). Four operations write an annex record. The credit stage of
a packing and the beginning of a service's record bring a counter within the bound; the packets of the two passes and the carry-over at
a switch keep it there. Every other operation leaves the annex records as they are, or drops them all. -/

namespace Sys2Proof.Credits

open Sys2Proof Sys2Proof.Machine

/-! ### The annex records -/

/-- Both counters of an annex record lie within 8 times their quanta (R86). -/
def WithinQuanta (a : Annex) : Prop :=
  a.labelCredit ≤ 8 * a.labelQuantum ∧ a.pictureCredit ≤ 8 * a.pictureQuantum

/-- The annex records kept, in the order of the services. -/
@[simp] abbrev annexes (s : State) : List Annex := s.services.map (·.annex)

theorem creditsBounded_iff (s : State) : CreditsBounded s ↔ ∀ a ∈ annexes s, WithinQuanta a := by
  simp [CreditsBounded, WithinQuanta]

/-- The bound speaks of the annex records alone. -/
theorem bounded_of_annexes {s t : State} (h : CreditsBounded s) (e : annexes t = annexes s) : CreditsBounded t := by
  rw [creditsBounded_iff] at h ⊢
  rwa [e]

theorem bounded_of_services {s t : State} (h : CreditsBounded s) (e : t.services = s.services) : CreditsBounded t :=
  bounded_of_annexes h (congrArg (List.map (·.annex)) e)

/-- With no service kept there is no counter. -/
theorem bounded_of_none {s : State} (h : s.services = []) : CreditsBounded s := by
  simp [CreditsBounded, h]

/-- An update of a service that leaves its annex record alone leaves all of them alone. -/
theorem updateService_annexes (sid : U16) (f : Service → Service) (s : State) (h : ∀ v, (f v).annex = v.annex) :
    annexes (updateService sid f s) = annexes s := by
  simp only [annexes, updateService, List.map_map]
  refine List.map_congr_left fun v _ => ?_
  simp only [Function.comp_apply]
  split
  · exact h v
  · rfl

theorem updateWhenPacked_annexes (sid : U16) (f : Service → Service) (s : State) (h : ∀ v, (f v).annex = v.annex) :
    annexes (updateWhenPacked sid f s) = annexes s := by
  unfold updateWhenPacked
  split
  · exact updateService_annexes sid f s h
  · rfl

/-- A service replaced by one within its quanta. -/
theorem updateService_bounded {s : State} {w : Service} (sid : U16) (h : CreditsBounded s)
    (hw : WithinQuanta w.annex) : CreditsBounded (updateService sid (fun _ => w) s) := by
  intro v hv
  obtain ⟨x, hx, rfl⟩ := List.mem_map.mp hv
  split
  · exact hw
  · exact h x hx

@[simp] theorem updatePicture_annexes (sid : U16) (f : PictureState → PictureState) (s : State) :
    annexes (updatePicture sid f s) = annexes s := updateService_annexes _ _ _ fun _ => rfl

@[simp] theorem setLabelRead_annexes (sid : U16) (r : RecordRead) (s : State) :
    annexes (setLabelRead sid r s) = annexes s := updateService_annexes _ _ _ fun _ => rfl

/-! ### A packing keeps its service within its quanta (R82 to R93) -/

/-- A grant never leaves a counter over 8 times its quantum, whatever it held before (R86). -/
theorem grantCredit_le (credit quantum : Nat) (ready : Bool) : grantCredit credit quantum ready ≤ 8 * quantum := by
  simp only [grantCredit]
  split <;> omega

/-- The credit stage alone brings a service within its quanta. -/
theorem credit_within (labelQ pictureQ : Nat) (v : Service) : WithinQuanta (v.credit labelQ pictureQ).annex :=
  ⟨grantCredit_le _ _ _, grantCredit_le _ _ _⟩

/-- A packet only takes credit away (R92). -/
theorem send_within (kind : PacketKind) (body : List Byte) (label : Bool) {k : Packing} (h : WithinQuanta k.svc.annex) :
    WithinQuanta (k.send kind body label).svc.annex := by
  obtain ⟨hl, hp⟩ := h
  cases label
  · exact ⟨hl, Nat.le_trans (Nat.sub_le _ _) hp⟩
  · exact ⟨Nat.le_trans (Nat.sub_le _ _) hl, hp⟩

@[simp] theorem labelTaken_annex (v : Service) : v.labelTaken.annex = v.annex := by
  unfold Service.labelTaken
  split
  · split <;> rfl
  · rfl

theorem labelTurn_within (credited : Bool) {k : Packing} (h : WithinQuanta k.svc.annex) :
    WithinQuanta (k.labelTurn credited).1.svc.annex := by
  unfold Packing.labelTurn
  split
  · split
    · simpa using send_within _ _ _ h
    · exact h
  · exact h

theorem ownPictureTurn_within (credited : Bool) {k : Packing} (h : WithinQuanta k.svc.annex) :
    WithinQuanta (k.ownPictureTurn credited).1.svc.annex := by
  simp only [Packing.ownPictureTurn]
  split
  · split
    · exact send_within .pictureAbort _ false h
    · exact h
  · split
    · split
      · exact send_within .pictureSeg _ false h
      · exact h
    · exact h

theorem alertPictureTurn_within (credited : Bool) {k : Packing} (h : WithinQuanta k.svc.annex) :
    WithinQuanta (k.alertPictureTurn credited).1.svc.annex := by
  simp only [Packing.alertPictureTurn]
  split
  · split
    · exact h
    · split
      · exact send_within .alertPictureSeg _ false h
      · exact h
  · exact h

theorem pictureTurn_within (credited : Bool) {k : Packing} (h : WithinQuanta k.svc.annex) :
    WithinQuanta (k.pictureTurn credited).1.svc.annex := by
  unfold Packing.pictureTurn
  split
  · exact ownPictureTurn_within credited h
  · exact alertPictureTurn_within credited h

theorem rounds_within (credited : Bool) (n : Nat) {k : Packing} (h : WithinQuanta k.svc.annex) :
    WithinQuanta (Packing.rounds credited n k).svc.annex := by
  induction n generalizing k with
  | zero => exact h
  | succ n ih =>
    have round := pictureTurn_within credited (labelTurn_within credited h)
    simp only [Packing.rounds]
    split
    · exact ih round
    · exact round

/-- The service that a packing leaves is within its quanta, whatever it was before. -/
theorem packField_within (i : PackInput) (e : PlanEntry) (audio : List Byte) (permitted : Bool) (v : Service) :
    WithinQuanta (packField i e audio permitted v).svc.annex :=
  rounds_within false _ (rounds_within true _ (credit_within _ _ _))

/-! ### The beginning and the carry-over of a record (R79, R96) -/

theorem fresh_within (e : PlanEntry) (before : U32) : WithinQuanta (Service.fresh e before).annex :=
  ⟨Nat.zero_le _, Nat.zero_le _⟩

/-- A carried counter is clamped to its new quantum; the label's in credit mode ALERT stands, and so does its quantum (R96). -/
theorem carried_within (e : PlanEntry) {a : Annex} (h : WithinQuanta a) : WithinQuanta (a.carried e) := by
  simp only [Annex.carried]
  split
  · exact ⟨Nat.min_le_right _ _, Nat.min_le_right _ _⟩
  · exact ⟨h.1, Nat.min_le_right _ _⟩

theorem carryService_within (old : List PlanEntry) {services : List Service} (before : U32) (e : PlanEntry)
    (h : ∀ v ∈ services, WithinQuanta v.annex) : WithinQuanta (carryService old services before e).annex := by
  unfold carryService
  split
  · next v _ hv =>
    split
    · exact fresh_within e before
    · exact carried_within e (h v (List.mem_of_find?_eq_some hv))
  · exact fresh_within e before

theorem carryOver_bounded (old new : List PlanEntry) (before : U32) {s : State} (h : CreditsBounded s) :
    CreditsBounded (carryOver old new before s) := by
  intro v hv
  obtain ⟨e, -, rfl⟩ := List.mem_map.mp hv
  exact carryService_within old before e h


/-! ### The operations of the blocks that keep no annex record -/

@[simp] theorem beginPlanLoad_services (toActive : Bool) (addr : Addr) (s : State) :
    (beginPlanLoad toActive addr s).services = s.services := by simp [beginPlanLoad]

@[simp] theorem withdrawPlanLoad_services (s : State) : (withdrawPlanLoad s).services = s.services := by
  simp [withdrawPlanLoad]

@[simp] theorem requestEntries_services (l : PlanLoad) (h : PlanHeader) (s : State) :
    (requestEntries l h s).services = s.services := by simp [requestEntries]

@[simp] theorem stagedOutcome_services (o : Except PlanResult Plan) (s : State) :
    (stagedOutcome o s).services = s.services := by
  cases o <;> simp [stagedOutcome]

@[simp] theorem planSuperseded_services (s : State) : (planSuperseded s).services = s.services := by
  simp [planSuperseded]

@[simp] theorem planRequestIdle_services (addr : Addr) (s : State) : (planRequestIdle addr s).services = s.services := by
  simp only [planRequestIdle]
  split
  · split <;> simp
  · split <;> simp

@[simp] theorem planRequestLoading_services (addr : Addr) (s : State) :
    (planRequestLoading addr s).services = s.services := by
  simp only [planRequestLoading]
  split <;> simp

@[simp] theorem planRequestCountdown_services (addr : Addr) (s : State) :
    (planRequestCountdown addr s).services = s.services := by
  simp only [planRequestCountdown]
  split
  · rfl
  · split <;> simp

@[simp] theorem planRequestCancelling_services (addr : Addr) (s : State) :
    (planRequestCancelling addr s).services = s.services := by simp [planRequestCancelling]

@[simp] theorem planRequest_services (addr : Addr) (s : State) : (planRequest addr s).services = s.services := by
  unfold planRequest
  split <;> simp

@[simp] theorem alertCell_services (v : RootValues) (s : State) : (alertCell v s).services = s.services := by
  simp only [alertCell]
  repeat' split
  all_goals simp

@[simp] theorem takeRequests_services (s : State) : (takeRequests s).services = s.services := by
  have telegram : (takeTelegram s).services = s.services := by
    simp only [takeTelegram]
    split <;> simp
  rw [takeRequests, ← telegram]
  simp only [takeCell]
  split
  · split <;> simp
  · rfl

@[simp] theorem fixPhase_services (s : State) : (fixPhase s).services = s.services := by simp [fixPhase]

@[simp] theorem fixMode_services (s : State) : (fixMode s).services = s.services := by
  unfold fixMode
  split
  · split <;> simp
  · split
    · simp
    · split <;> simp
  · rfl
  · rfl

@[simp] theorem finishLoad_services (l : StandbyLoad) (s : State) : (finishLoad l s).services = s.services := by
  simp only [finishLoad]
  split <;> simp

@[simp] theorem requestStandby_services (l : StandbyLoad) (s : State) : (requestStandby l s).services = s.services := by
  simp [requestStandby]

@[simp] theorem beginLoad_services (q : StandbyRequest) (s : State) : (beginLoad q s).services = s.services := by
  simp only [beginLoad]
  split <;> simp

@[simp] theorem beginPending_services (s : State) : (beginPending s).services = s.services := by
  unfold beginPending
  split
  · split <;> simp
  · rfl

@[simp] theorem standbyRequest_services (v : RootValues) (s : State) : (standbyRequest v s).services = s.services := by
  simp only [standbyRequest]
  repeat' split
  all_goals simp

@[simp] theorem standbyDone_services (o : TransferOutcome) (s : State) : (standbyDone o s).services = s.services := by
  simp only [standbyDone]
  split
  · rfl
  · split
    · split <;> simp
    · simp
    · simp

@[simp] theorem requestStatus_services (snap : Snapshot) (sequence : U32) (part : Nat) (s : State) :
    (requestStatus snap sequence part s).services = s.services := by simp [requestStatus]

@[simp] theorem startWriteback_services (snap : Snapshot) (s : State) : (startWriteback snap s).services = s.services := by
  simp [startWriteback]

@[simp] theorem requestWriteback_services (snap : Snapshot) (s : State) :
    (requestWriteback snap s).services = s.services := by
  unfold requestWriteback
  split
  · rfl
  · split <;> simp

@[simp] theorem endWriteback_services (s : State) : (endWriteback s).services = s.services := by
  simp only [endWriteback]
  split <;> simp

@[simp] theorem statusTransferDone_services (o : TransferOutcome) (s : State) :
    (statusTransferDone o s).services = s.services := by
  unfold statusTransferDone
  split
  · split <;> simp
  · simp

@[simp] theorem requestFrameStatus_services (s : State) : (requestFrameStatus s).services = s.services := by
  unfold requestFrameStatus
  split <;> simp

@[simp] theorem closingWriteback_services (addr : Addr) (s : State) : (closingWriteback addr s).services = s.services := by
  simp [closingWriteback]

@[simp] theorem applyRate_services (code : Byte) (s : State) : (applyRate code s).services = s.services := by
  unfold applyRate
  split
  · split <;> rfl
  · rfl

/-! The line and the parser (chapter 9). -/

@[simp] theorem storeEntry_services (e : FifoEntry) (s : State) : (storeEntry e s).services = s.services := by
  rcases storeEntry_cases e s with ⟨-, h⟩ | ⟨-, h⟩ <;> simp [h]

@[simp] theorem completeIdleMarker_services (s : State) : (completeIdleMarker s).services = s.services := by
  simp [completeIdleMarker]

@[simp] theorem countIdle_services (n : Nat) (s : State) : (countIdle n s).services = s.services := by
  rcases countIdle_cases n s with ⟨-, h⟩ | ⟨-, -, h⟩ | ⟨-, -, h⟩ <;> simp [h]

@[simp] theorem fallingEdge_services (hunted : Nat) (s : State) : (fallingEdge hunted s).services = s.services := by
  unfold fallingEdge
  split <;> simp

@[simp] theorem idleMarker_services (s : State) : (idleMarker s).services = s.services := by
  unfold idleMarker
  split <;> simp

@[simp] theorem startBit_services (b : BitSamples) (s : State) : (startBit b s).services = s.services := by
  unfold startBit
  split
  · split <;> simp
  · rfl

@[simp] theorem byteComplete_services (b : ByteSamples) (s : State) : (byteComplete b s).services = s.services := by
  unfold byteComplete
  split <;> simp

@[simp] theorem breakWaitEnd_services (s : State) : (breakWaitEnd s).services = s.services := by
  unfold breakWaitEnd
  split <;> rfl

@[simp] theorem completeTelegram_services (crc : List Byte) (s : State) :
    (completeTelegram crc s).services = s.services := by
  simp only [completeTelegram]
  split
  · simp
  · split <;> simp

@[simp] theorem lengthByte_services (b : Byte) (s : State) : (lengthByte b s).services = s.services := by
  unfold lengthByte
  split <;> simp

@[simp] theorem checkByte_services (b : Byte) (s : State) : (checkByte b s).services = s.services := by
  simp only [checkByte]
  split <;> simp

@[simp] theorem cleanByte_services (b : Byte) (s : State) : (cleanByte b s).services = s.services := by
  unfold cleanByte
  split <;> simp [bodyByte]

@[simp] theorem breakEntry_services (e : FifoEntry) (s : State) : (breakEntry e s).services = s.services := by
  unfold breakEntry
  split <;> simp

@[simp] theorem parseEntry_services (e : FifoEntry) (s : State) : (parseEntry e s).services = s.services := by
  unfold parseEntry
  split
  · simp
  · split
    · rfl
    · split <;> simp

@[simp] theorem takeEntry_services (s : State) : (takeEntry s).services = s.services := by
  unfold takeEntry
  split
  · split <;> simp
  · rfl

/-! The port, the timer and the registers. -/

@[simp] theorem countEnd_services (o : TransferOutcome) (s : State) : (countEnd o s).services = s.services := by
  cases o <;> simp [countEnd]

@[simp] theorem promoteBulk_services (s : State) : (promoteBulk s).services = s.services := by
  unfold promoteBulk
  split
  · split <;> simp
  · rfl

@[simp] theorem endQuiet_services (s : State) : (endQuiet s).services = s.services := by
  unfold endQuiet
  split <;> simp

@[simp] theorem handRequests_services (old : SeenSequences) (v : RootValues) (s : State) :
    (handRequests old v s).services = s.services := by
  simp only [handRequests]
  repeat' split
  all_goals simp

@[simp] theorem rootPollDone_services (o : TransferOutcome) (s : State) : (rootPollDone o s).services = s.services := by
  simp only [rootPollDone, acceptPoll]
  split
  · split <;> simp
  · simp
  · simp

@[simp] theorem pulseMark_services (s : State) : (pulseMark s).services = s.services := by
  unfold pulseMark
  split <;> rfl

@[simp] theorem applySource_services (s : State) : (applySource s).services = s.services := by
  simp only [applySource]
  split <;> simp

@[simp] theorem rootPoll_services (s : State) : (rootPoll s).services = s.services := by
  simp only [rootPoll]
  split <;> simp

@[simp] theorem selectSource_services (source : FrameSource) (s : State) :
    (selectSource source s).services = s.services := by
  simp only [selectSource]
  split <;> rfl

@[simp] theorem enterStarting_services (s : State) : (enterStarting s).services = s.services := by simp [enterStarting]

@[simp] theorem requestRun_services (s : State) : (requestRun s).services = s.services := by
  unfold requestRun
  repeat' split
  all_goals simp [refuseStart]

@[simp] theorem requestHold_services (s : State) : (requestHold s).services = s.services := by
  unfold requestHold
  repeat' split
  all_goals simp

/-! ### The operations on services that leave the annex records alone -/

/-- Operations folded over a list leave the annex records alone when each does. -/
theorem foldl_annexes {α : Type} (f : State → α → State) (hf : ∀ s x, annexes (f s x) = annexes s) (l : List α)
    (s : State) : annexes (l.foldl f s) = annexes s := by
  induction l generalizing s with
  | nil => rfl
  | cons x l ih => exact (ih _).trans (hf s x)

theorem labelStepTimerExpiry_annexes (sid : U16) (s : State) : annexes (labelStepTimerExpiry sid s) = annexes s := by
  refine updateWhenPacked_annexes sid _ s fun v => ?_
  repeat' split
  all_goals rfl

theorem alertStepTimerExpiry_annexes (sid : U16) (s : State) : annexes (alertStepTimerExpiry sid s) = annexes s := by
  refine updateWhenPacked_annexes sid _ s fun v => ?_
  repeat' split
  all_goals rfl

theorem dwellTimerExpiry_annexes (sid : U16) (s : State) : annexes (dwellTimerExpiry sid s) = annexes s := by
  refine updateWhenPacked_annexes sid _ s fun v => ?_
  repeat' split
  all_goals rfl

@[simp] theorem pollLabel_annexes (index : Nat) (e : PlanEntry) (s : State) :
    annexes (pollLabel index e s) = annexes s := by
  unfold pollLabel
  split
  · split <;> simp
  · rfl

theorem labelPollDone_annexes (sid : U16) (o : TransferOutcome) (s : State) :
    annexes (labelPollDone sid o s) = annexes s := by
  unfold labelPollDone
  split
  · split <;> simp
  · simp

theorem labelFetchDone_annexes (sid : U16) (o : TransferOutcome) (s : State) :
    annexes (labelFetchDone sid o s) = annexes s := by
  cases o with
  | data bytes => exact updateService_annexes sid _ s fun _ => rfl
  | error => exact setLabelRead_annexes sid _ s
  | timeout => exact setLabelRead_annexes sid _ s

@[simp] theorem beginSelection_annexes (sid : U16) (s : State) : annexes (beginSelection sid s) = annexes s := by
  simp [beginSelection]

@[simp] theorem beginRefill_annexes (sid : U16) (p : PictureState) (s : State) :
    annexes (beginRefill sid p s) = annexes s := by simp [beginRefill]

@[simp] theorem readEntry_annexes (sid : U16) (p : PictureState) (s : State) :
    annexes (readEntry sid p s) = annexes s := by simp [readEntry]

theorem pictureRequest_annexes (sid : U16) (s : State) : annexes (pictureRequest sid s) = annexes s := by
  unfold pictureRequest
  repeat' split
  all_goals simp

@[simp] theorem pictureRequests_annexes (s : State) : annexes (pictureRequests s) = annexes s :=
  foldl_annexes _ (fun s sid => pictureRequest_annexes sid s) _ s

theorem pictureHeaderDone_annexes (sid : U16) (o : TransferOutcome) (s : State) :
    annexes (pictureHeaderDone sid o s) = annexes s := by
  simp only [pictureHeaderDone]
  split
  · split <;> simp
  · simp

theorem pictureEntryDone_annexes (sid : U16) (o : TransferOutcome) (s : State) :
    annexes (pictureEntryDone sid o s) = annexes s := by
  simp only [pictureEntryDone]
  split
  · split
    · simp
    · split <;> simp
  · simp

theorem refillRecordDone_annexes (sid : U16) (o : TransferOutcome) (s : State) :
    annexes (refillRecordDone sid o s) = annexes s := by
  unfold refillRecordDone
  split
  · split
    · simp
    · split <;> simp
  · simp

theorem refillDataDone_annexes (sid : U16) (o : TransferOutcome) (s : State) :
    annexes (refillDataDone sid o s) = annexes s := by
  cases o <;> exact updatePicture_annexes sid _ s

@[simp] theorem setSlotRead_annexes (key : SlotKey) (r : SlotRead) (s : State) :
    annexes (setSlotRead key r s) = annexes s := by
  cases key with
  | service sid => exact updateService_annexes sid _ s fun _ => rfl
  | alert => rfl

@[simp] theorem slotFault_annexes (key : SlotKey) (s : State) : annexes (slotFault key s) = annexes s := by
  simp [slotFault]

@[simp] theorem requestConfirm_annexes (key : SlotKey) (p : SlotPlace) (r : SlotRead) (s : State) :
    annexes (requestConfirm key p r s) = annexes s := by simp [requestConfirm]

@[simp] theorem requestBurst_annexes (key : SlotKey) (p : SlotPlace) (len : Nat) (r : SlotRead) (s : State) :
    annexes (requestBurst key p len r s) = annexes s := by simp [requestBurst]

@[simp] theorem pollSlot_annexes (key : SlotKey) (s : State) : annexes (pollSlot key s) = annexes s := by
  unfold pollSlot
  split
  · split <;> simp
  · rfl

@[simp] theorem pollSlots_annexes (first : Bool) (s : State) : annexes (pollSlots first s) = annexes s :=
  (pollSlot_annexes .alert _).trans (foldl_annexes _ (fun s sid => pollSlot_annexes (.service sid) s) _ s)

@[simp] theorem beginSlotReads_annexes (s : State) : annexes (beginSlotReads s) = annexes s := by
  unfold beginSlotReads
  split
  · rw [pollSlots_annexes]; simp
  · simp

theorem slotHeaderDone_annexes (key : SlotKey) (o : TransferOutcome) (s : State) :
    annexes (slotHeaderDone key o s) = annexes s := by
  simp only [slotHeaderDone]
  repeat' split
  all_goals simp

theorem payloadBurstDone_annexes (key : SlotKey) (o : TransferOutcome) (s : State) :
    annexes (payloadBurstDone key o s) = annexes s := by
  simp only [payloadBurstDone]
  split
  · split
    · split <;> simp
    · simp
    · simp
  · rfl

theorem confirmDone_annexes (key : SlotKey) (o : TransferOutcome) (s : State) :
    annexes (confirmDone key o s) = annexes s := by
  unfold confirmDone
  split
  · split
    · split <;> simp
    · simp
    · simp
  · rfl

@[simp] theorem beginAssembly_annexes (s : State) : annexes (beginAssembly s) = annexes s := by
  simp only [beginAssembly, beginSlotReads_annexes, pictureRequests_annexes]
  simp [beginTimeline]

theorem pollOffset_annexes (s : State) : annexes (pollOffset s) = annexes s := by
  simp only [pollOffset]
  split
  · exact pollSlots_annexes _ _
  · rfl

/-! ### The operations that drop or begin every record (R27, R23, R58, R79) -/

@[simp] theorem enterStopped_services (s : State) : (enterStopped s).services = [] := rfl

theorem carryOutStop_bounded (s : State) : CreditsBounded (carryOutStop s) :=
  bounded_of_none (by simp [carryOutStop])

theorem endStart_bounded (r : StartResult) (s : State) : CreditsBounded (endStart r s) := by
  refine bounded_of_none ?_
  simp only [endStart]
  split <;> simp

theorem requestStop_bounded {s : State} (h : CreditsBounded s) : CreditsBounded (requestStop s) := by
  have running : CreditsBounded (requestStop.stopRunning s) := by
    unfold requestStop.stopRunning
    split
    · exact h
    · split
      · exact h
      · exact carryOutStop_bounded s
  unfold requestStop
  split
  · exact h
  · exact endStart_bounded _ s
  · exact running
  · exact running

theorem rootReadDone_bounded (o : TransferOutcome) {s : State} (h : CreditsBounded s) :
    CreditsBounded (rootReadDone o s) := by
  cases o with
  | data bytes =>
    simp only [rootReadDone]
    split
    · exact endStart_bounded _ _
    · split
      · exact endStart_bounded _ _
      · exact bounded_of_services h (by simp)
  | error => exact endStart_bounded _ s
  | timeout => exact endStart_bounded _ s

theorem activeOutcome_bounded (o : Except PlanResult Plan) (s : State) : CreditsBounded (activeOutcome o s) := by
  cases o with
  | ok p =>
    intro v hv
    obtain ⟨e, -, rfl⟩ := List.mem_map.mp hv
    exact fresh_within e _
  | error r => exact endStart_bounded _ _

theorem planLoadOutcome_bounded (l : PlanLoad) (o : Except PlanResult Plan) {s : State} (h : CreditsBounded s) :
    CreditsBounded (planLoadOutcome l o s) := by
  unfold planLoadOutcome
  split
  · exact activeOutcome_bounded o s
  · exact bounded_of_services h (by simp)

theorem continueLoad_bounded (l : PlanLoad) (header : PlanHeader) {s : State} (h : CreditsBounded s) :
    CreditsBounded (continueLoad l header s) := by
  unfold continueLoad
  split
  · exact bounded_of_services h (by simp)
  · split
    · exact planLoadOutcome_bounded l _ h
    · exact planLoadOutcome_bounded l _ h

theorem planTransferDone_bounded (o : TransferOutcome) {s : State} (h : CreditsBounded s) :
    CreditsBounded (planTransferDone o s) := by
  unfold planTransferDone
  split
  · exact h
  · split
    · split
      · exact continueLoad_bounded _ _ h
      · exact continueLoad_bounded _ _ h
    · exact planLoadOutcome_bounded _ _ h
    · exact planLoadOutcome_bounded _ _ h

/-! ### The cut-off (R15) -/

@[simp] theorem withdrawEndedRefill_services (before after : PictureState) (sid : U16) (s : State) :
    (withdrawEndedRefill before after sid s).services = s.services := by
  unfold withdrawEndedRefill
  split <;> simp

@[simp] theorem selectAlertAudio_services (s : State) : (selectAlertAudio s).services = s.services := by
  unfold selectAlertAudio
  split
  · rfl
  · rfl
  · split <;> rfl

theorem workService_bounded (x : PlanEntry × Nat) {w : Work} (h : CreditsBounded w.state) :
    CreditsBounded (workService w x).state := by
  have afterPacking (p q : PictureState) (late : Bool) (u : State) :
      annexes (pollLabel x.2 x.1 (withdrawEndedRefill p q x.1.sid (raiseIf late .late u))) = annexes u := by
    rw [pollLabel_annexes]
    simp
  simp only [workService]
  split
  · next v _ =>
    refine bounded_of_annexes ?_ (afterPacking _ _ _ _)
    exact updateService_bounded x.1.sid h (packField_within _ _ _ _ v)
  · exact h

theorem foldl_workService_bounded (l : List (PlanEntry × Nat)) {w : Work} (h : CreditsBounded w.state) :
    CreditsBounded (l.foldl workService w).state := by
  induction l generalizing w with
  | nil => exact h
  | cons x l ih => exact ih (workService_bounded x h)

theorem workRunning_bounded {s : State} (h : CreditsBounded s) : CreditsBounded (workRunning s).state := by
  refine foldl_workService_bounded _ (w := { state := _, fields := [] }) ?_
  refine bounded_of_services h ?_
  split <;> simp

theorem workFrame_bounded {s : State} (h : CreditsBounded s) : CreditsBounded (workFrame s).state := by
  unfold workFrame
  split
  · exact workRunning_bounded h
  · exact h

theorem switchPlan_bounded {s : State} (h : CreditsBounded s) : CreditsBounded (switchPlan s) := by
  have carried (pm : PlanManager) (old new : List PlanEntry) (before : U32) :
      CreditsBounded (carryOver old new before { s with pm := pm }) := carryOver_bounded old new before h
  simp only [switchPlan]
  split
  · refine bounded_of_services ?_ (planRequestIdle_services _ _)
    exact carried _ _ _ _
  · exact carried _ _ _ _

theorem cancelCountdown_services (s : State) : (cancelCountdown s).services = s.services := by
  simp only [cancelCountdown]
  split <;> simp [fixUnchanged]

theorem fixPlan_bounded {s : State} (h : CreditsBounded s) : CreditsBounded (fixPlan s) := by
  unfold fixPlan
  split
  · split <;> exact h
  · exact h
  · split
    · exact switchPlan_bounded h
    · exact h
  · exact bounded_of_services h (by simp [cancelCountdown_services])

theorem fixNext_bounded {s : State} (h : CreditsBounded s) : CreditsBounded (fixNext s) := by
  have fixed : CreditsBounded (fixPlan (takeRequests s)) := fixPlan_bounded (bounded_of_services h (by simp))
  exact bounded_of_services fixed (by simp [fixNext])

theorem cutOff_bounded {s : State} (h : CreditsBounded s) : CreditsBounded (cutOff s) := by
  have worked : CreditsBounded (workFrame { s with ft := { s.ft with cutOffMade := true } }).state := workFrame_bounded h
  have fixed : CreditsBounded (fixNext (completeFrame (workFrame { s with ft := { s.ft with cutOffMade := true } }))) :=
    fixNext_bounded worked
  exact bounded_of_services fixed (by simp [cutOff, assembleSnapshot])

theorem timedCutOff_bounded {s : State} (h : CreditsBounded s) : CreditsBounded (timedCutOff s) := by
  unfold timedCutOff
  split
  · exact cutOff_bounded h
  · exact h

/-! ### Frame starts (R10 to R18) -/

theorem emittingStart_annexes (s : State) : annexes (emittingStart s) = annexes s := by
  rw [emittingStart, beginAssembly_annexes]
  simp [beginEmission]

theorem openingStart_annexes (s : State) : annexes (openingStart s) = annexes s := by
  simp only [openingStart, beginAssembly_annexes]
  simp

theorem handOver_bounded {s : State} (h : CreditsBounded s) : CreditsBounded (handOver s) := by
  have begun : CreditsBounded (if s.modes.pending = .stop then stoppingStart s else emittingStart s) := by
    split
    · exact carryOutStop_bounded _
    · exact bounded_of_annexes h (emittingStart_annexes s)
  unfold handOver
  split
  · exact h
  · split
    · exact bounded_of_annexes h (openingStart_annexes s)
    · exact bounded_of_services h (by simp)
  · exact begun
  · exact begun

theorem takeStart_bounded (t : Nat) (timer : FrameTimer → FrameTimer) (changed : Bool) {s : State} (h : CreditsBounded s) :
    CreditsBounded (takeStart t timer changed s) := by
  have cut : CreditsBounded (ensureCutOff s) := by
    unfold ensureCutOff
    split
    · exact cutOff_bounded h
    · exact h
  exact handOver_bounded (bounded_of_services cut (by simp))

theorem frameInEdge_bounded (t : Nat) {s : State} (h : CreditsBounded s) : CreditsBounded (frameInEdge t s) := by
  unfold frameInEdge
  split
  · split
    · exact takeStart_bounded _ _ _ h
    · exact h
  · split
    · split
      · exact takeStart_bounded _ _ _ h
      · exact h
    · exact h

theorem internalExpiry_bounded {s : State} (h : CreditsBounded s) : CreditsBounded (internalExpiry s) := by
  unfold internalExpiry
  split
  · exact takeStart_bounded _ _ _ h
  · exact h

theorem lockedDeadline_bounded {s : State} (h : CreditsBounded s) : CreditsBounded (lockedDeadline s) := by
  unfold lockedDeadline
  split
  · exact takeStart_bounded _ _ _ h
  · exact h

theorem holdoverExpiry_bounded {s : State} (h : CreditsBounded s) : CreditsBounded (holdoverExpiry s) := by
  unfold holdoverExpiry
  split
  · exact takeStart_bounded _ _ _ h
  · exact h

theorem lastByteSent_bounded {s : State} (h : CreditsBounded s) : CreditsBounded (lastByteSent s) := by
  unfold lastByteSent
  split
  · split
    · exact carryOutStop_bounded s
    · exact h
  · exact h

/-! ### The ends of transfers (R189 to R191) -/

theorem ownerTakes_bounded (p : Purpose) (o : TransferOutcome) {s : State} (h : CreditsBounded s) :
    CreditsBounded (ownerTakes p o s) := by
  cases p with
  | rootRead => exact rootReadDone_bounded o h
  | rootPoll => exact bounded_of_services h (rootPollDone_services o s)
  | planLoad => exact planTransferDone_bounded o h
  | status => exact bounded_of_services h (statusTransferDone_services o s)
  | slotHeader key => exact bounded_of_annexes h (slotHeaderDone_annexes key o s)
  | slotPayload key => exact bounded_of_annexes h (payloadBurstDone_annexes key o s)
  | slotConfirm key => exact bounded_of_annexes h (confirmDone_annexes key o s)
  | labelPoll sid => exact bounded_of_annexes h (labelPollDone_annexes sid o s)
  | labelFetch sid => exact bounded_of_annexes h (labelFetchDone_annexes sid o s)
  | listHeader sid => exact bounded_of_annexes h (pictureHeaderDone_annexes sid o s)
  | listEntry sid => exact bounded_of_annexes h (pictureEntryDone_annexes sid o s)
  | refillRecord sid => exact bounded_of_annexes h (refillRecordDone_annexes sid o s)
  | refillData sid => exact bounded_of_annexes h (refillDataDone_annexes sid o s)
  | alertText => exact h
  | standby => exact bounded_of_services h (standbyDone_services o s)

theorem completeSlot_bounded (i : Fin 8) (o : TransferOutcome) {s : State} (h : CreditsBounded s) :
    CreditsBounded (completeSlot i o s) := by
  unfold completeSlot
  split
  · exact h
  · next f _ =>
    have counted : CreditsBounded
        (countEnd o (releaseSlot i (if o = .timeout then reachTime (f.grantTime + ms 4) s else s))) := by
      refine bounded_of_annexes h ?_
      split <;> simp
    simp only
    split
    · exact counted
    · exact ownerTakes_bounded f.request.purpose _ (s := { countEnd o (releaseSlot i _) with mp := _, freeDraws := _ }) counted

theorem completePurpose_bounded (p : Purpose) (o : TransferOutcome) {s : State} (h : CreditsBounded s) :
    CreditsBounded (completePurpose p o s) := by
  unfold completePurpose
  split
  · exact completeSlot_bounded _ o h
  · exact h

theorem busResponse_bounded (i : Fin 8) (grant : BitVec 8) (o : BusOutcome) {s : State} (h : CreditsBounded s) :
    CreditsBounded (busResponse i grant o s) := by
  unfold busResponse
  split
  · split
    · exact completeSlot_bounded i _ h
    · exact h
  · exact h

/-! ### Every command -/

/-- Every command answers, and leaves every credit counter within its quanta. -/
theorem exec_bounded (i : Instr) {s : State} (h : CreditsBounded s) : ∃ t, exec i s = .next t ∧ CreditsBounded t := by
  cases i with
  | powerOnReset => exact ⟨_, rfl, bounded_of_none rfl⟩
  | softReset word => exact ⟨_, rfl, bounded_of_none rfl⟩
  | modeRequestRun => exact ⟨_, rfl, bounded_of_services h (requestRun_services s)⟩
  | modeRequestHold => exact ⟨_, rfl, bounded_of_services h (requestHold_services s)⟩
  | modeRequestStop => exact ⟨_, rfl, requestStop_bounded h⟩
  | frameSourceSelect source => exact ⟨_, rfl, bounded_of_services h (selectSource_services source s)⟩
  | frameMarkEnable on => exact ⟨_, rfl, h⟩
  | rootAddressWrite reg value =>
    refine ⟨_, rfl, ?_⟩
    split <;> exact h
  | causeMaskWrite value => exact ⟨_, rfl, h⟩
  | causeRead => exact ⟨_, rfl, bounded_of_services h (by simp [readRegister_eq])⟩
  | registerWrite reg value => exact ⟨_, rfl, h⟩
  | frameInEdge t => exact ⟨_, rfl, frameInEdge_bounded t h⟩
  | internalPeriodExpiry => exact ⟨_, rfl, internalExpiry_bounded h⟩
  | lockedDeadline => exact ⟨_, rfl, lockedDeadline_bounded h⟩
  | holdoverPeriodExpiry => exact ⟨_, rfl, holdoverExpiry_bounded h⟩
  | txReadyChange level sent => exact ⟨_, rfl, h⟩
  | lastByteSent => exact ⟨_, rfl, lastByteSent_bounded h⟩
  | pollOffset => exact ⟨_, rfl, bounded_of_annexes h (pollOffset_annexes s)⟩
  | cutOff => exact ⟨_, rfl, timedCutOff_bounded h⟩
  | labelStepTimerExpiry sid => exact ⟨_, rfl, bounded_of_annexes h (labelStepTimerExpiry_annexes sid s)⟩
  | alertStepTimerExpiry sid => exact ⟨_, rfl, bounded_of_annexes h (alertStepTimerExpiry_annexes sid s)⟩
  | dwellTimerExpiry sid => exact ⟨_, rfl, bounded_of_annexes h (dwellTimerExpiry_annexes sid s)⟩
  | rootReadDone o => exact ⟨_, rfl, completePurpose_bounded .rootRead o h⟩
  | rootPollDone o => exact ⟨_, rfl, completePurpose_bounded .rootPoll o h⟩
  | planLoadTransferDone o => exact ⟨_, rfl, completePurpose_bounded .planLoad o h⟩
  | statusTransferDone o => exact ⟨_, rfl, completePurpose_bounded .status o h⟩
  | slotHeaderReadDone key o => exact ⟨_, rfl, completePurpose_bounded (.slotHeader key) o h⟩
  | payloadBurstDone key o => exact ⟨_, rfl, completePurpose_bounded (.slotPayload key) o h⟩
  | confirmReadDone key o => exact ⟨_, rfl, completePurpose_bounded (.slotConfirm key) o h⟩
  | labelPollDone sid o => exact ⟨_, rfl, completePurpose_bounded (.labelPoll sid) o h⟩
  | labelFetchDone sid o => exact ⟨_, rfl, completePurpose_bounded (.labelFetch sid) o h⟩
  | pictureHeaderReadDone sid o => exact ⟨_, rfl, completePurpose_bounded (.listHeader sid) o h⟩
  | pictureEntryReadDone sid o => exact ⟨_, rfl, completePurpose_bounded (.listEntry sid) o h⟩
  | refillRecordDone sid o => exact ⟨_, rfl, completePurpose_bounded (.refillRecord sid) o h⟩
  | refillDataDone sid o => exact ⟨_, rfl, completePurpose_bounded (.refillData sid) o h⟩
  | alertTextReadDone o => exact ⟨_, rfl, completePurpose_bounded .alertText o h⟩
  | standbyTransferDone o => exact ⟨_, rfl, completePurpose_bounded .standby o h⟩
  | lineByteComplete samples => exact ⟨_, rfl, bounded_of_services h (byteComplete_services samples s)⟩
  | breakWaitEnd => exact ⟨_, rfl, bounded_of_services h (breakWaitEnd_services s)⟩
  | idleMarker => exact ⟨_, rfl, bounded_of_services h (idleMarker_services s)⟩
  | parserTakeEntry => exact ⟨_, rfl, bounded_of_services h (takeEntry_services s)⟩
  | transferGrant => exact ⟨_, rfl, bounded_of_services h (grantOne_services s)⟩
  | bulkPromotion => exact ⟨_, rfl, bounded_of_services h (promoteBulk_services s)⟩
  | transferResponse slot grant o => exact ⟨_, rfl, busResponse_bounded slot grant o h⟩
  | staleResponse slot grant o => exact ⟨_, rfl, busResponse_bounded slot grant o h⟩
  | transferTimeout slot => exact ⟨_, rfl, completeSlot_bounded slot .timeout h⟩
  | quietTimeEnd => exact ⟨_, rfl, bounded_of_services h (endQuiet_services s)⟩
  | lineFallingEdge hunted => exact ⟨_, rfl, bounded_of_services h (fallingEdge_services hunted s)⟩
  | startBitSample samples => exact ⟨_, rfl, bounded_of_services h (startBit_services samples s)⟩

/-- Settles O57: a step idles or runs the command at the front of the queue, and every command keeps the bound. -/
theorem creditsStayBounded : Obligations.CreditsStayBounded := by
  intro s t h hst
  unfold step at hst
  split at hst
  · cases hst
    exact h
  · next c rest _ =>
    obtain ⟨u, hu, bounded⟩ := exec_bounded c (s := s.withPending rest) h
    rw [hu] at hst
    cases hst
    exact bounded

end Sys2Proof.Credits
end

section
/-! The scrolling labels of chapter 6: the expiry of a label's step timer (R110, R114) and the ends of its record's reads (R102,
R103). An expiry is a case split on whether the text built was sent whole often enough (R108); the end of a read is an update of one
service, made while its owner takes the outcome, with the request of the fetch behind it when the poll wants one. -/

namespace Sys2Proof.Labels

open Sys2Proof Sys2Proof.Machine

/-! ### The update of one service among distinct ones -/

theorem eq_of_sid_eq {services : List Service} {x v : Service} (distinct : (services.map (·.sid)).Nodup)
    (hx : x ∈ services) (hv : v ∈ services) (same : x.sid = v.sid) : x = v := by
  induction services with
  | nil => cases hx
  | cons y rest ih =>
    rw [List.map_cons, List.nodup_cons] at distinct
    obtain ⟨fresh, distinct⟩ := distinct
    rcases List.mem_cons.mp hx with rfl | later <;> rcases List.mem_cons.mp hv with rfl | later'
    · rfl
    · exact absurd (same ▸ List.mem_map_of_mem later') fresh
    · exact absurd (same ▸ List.mem_map_of_mem later) fresh
    · exact ih distinct later later'

/-- Service ids name services one to one when they are distinct, so an update by id replaces the one service. -/
theorem updateService_eq_replace {s : State} {v : Service} (f : Service → Service) (hv : v ∈ s.services)
    (distinct : (s.services.map (·.sid)).Nodup) :
    updateService v.sid f s = { s with services := s.services.map (fun x => if x.sid = v.sid then f v else x) } := by
  simp only [updateService, State.mk.injEq, true_and, and_true]
  refine List.map_congr_left fun x hx => ?_
  by_cases hsid : x.sid = v.sid
  · have same : x = v := eq_of_sid_eq distinct hx hv hsid
    rw [same, if_pos (beq_self_eq_true v.sid), if_pos rfl]
  · rw [if_neg (mt beq_iff_eq.mp hsid), if_neg hsid]

/-! ### A step of the window (R106, R110) -/

/-- A label that scrolls has a body, and so a cycle to step round (R105, R106). -/
theorem cycle_pos_of_scrolls {p : LabelParams} (h : p.scrolls = true) : 0 < p.cycle := by
  simp only [LabelParams.scrolls, Bool.and_eq_true, decide_eq_true_eq] at h
  simp only [LabelParams.cycle]
  omega

theorem stepFrom_forwards {p : LabelParams} (h : p.reversed = false) (position : Nat) :
    p.stepFrom position = (position + p.stepSize) % (p.body + p.gap) := by
  simp [LabelParams.stepFrom, LabelParams.cycle, h]

/-- Backwards the model first reduces the step size by the cycle, which keeps its subtraction of naturals exact; as an integer the
position is S less, round the cycle. -/
theorem stepFrom_backwards {p : LabelParams} (h : p.reversed = true) (pos : 0 < p.cycle) (position : Nat) :
    (p.stepFrom position : Int) = (position - p.stepSize : Int) % (p.cycle : Int) := by
  have le : p.stepSize % p.cycle ≤ position + p.cycle :=
    Nat.le_trans (Nat.le_of_lt (Nat.mod_lt _ pos)) (Nat.le_add_left _ _)
  calc (p.stepFrom position : Int)
      = ((position + p.cycle - p.stepSize % p.cycle : Nat) : Int) % p.cycle := by
        rw [LabelParams.stepFrom, if_pos h, Int.natCast_emod]
    _ = (position - (p.stepSize : Int) % p.cycle + p.cycle) % p.cycle := by
        rw [Int.ofNat_sub le, Int.natCast_add, Int.natCast_emod, Int.sub_eq_add_neg, Int.add_right_comm,
          ← Int.sub_eq_add_neg]
    _ = (position - p.stepSize : Int) % p.cycle := by rw [Int.add_emod_right, Int.sub_emod_emod]

/-- A step in either direction, as R110 gives it: S times the sign of the direction, modulo B'. -/
theorem stepFrom_eq {p : LabelParams} (h : p.scrolls = true) (position : Nat) :
    (p.stepFrom position : Int) =
      (position + (if p.reversed then -1 else 1) * p.stepSize) % (p.body + p.gap : Nat) := by
  cases hr : p.reversed
  · rw [stepFrom_forwards hr, if_neg Bool.false_ne_true, Int.one_mul, Int.natCast_emod, Int.natCast_add]
  · rw [stepFrom_backwards hr (cycle_pos_of_scrolls h), if_pos rfl, Int.neg_one_mul, Int.sub_eq_add_neg,
      LabelParams.cycle]

/-! ### The expiry of a step timer (R110, R114) -/

theorem satInc_eq_min (highest n : Nat) : satInc highest n = min highest (n + 1) := by
  unfold satInc
  split <;> omega

theorem complete_of_le {p : LabelParams} {r : LabelRun} (h : p.passes ≤ r.passCount) : r.complete p = true :=
  decide_eq_true h

theorem complete_of_lt {p : LabelParams} {r : LabelRun} (h : r.passCount < p.passes) : r.complete p = false :=
  decide_eq_false (Nat.not_le.mpr h)

theorem expire_of_complete {p : LabelParams} {r : LabelRun} (h : p.passes ≤ r.passCount) :
    r.expire p = LabelRun.step p { r with timer := p.interval } := by
  rw [LabelRun.expire, if_pos (complete_of_le h)]

theorem expire_of_incomplete {p : LabelParams} {r : LabelRun} (h : r.passCount < p.passes) :
    r.expire p = { r with timer := p.interval, stepPending := true } := by
  rw [LabelRun.expire, complete_of_lt h, if_neg Bool.false_ne_true]

/-- Complete or not, the label's timer is set to I again. -/
@[simp] theorem expire_timer (p : LabelParams) (r : LabelRun) : (r.expire p).timer = p.interval := by
  unfold LabelRun.expire
  split <;> rfl

theorem expire_slips_of_complete {p : LabelParams} {l : LabelState} (h : p.passes ≤ l.run.passCount) :
    (l.expire p).slips = l.slips := by
  have kept : l.run.slips p = false := by rw [LabelRun.slips, complete_of_le h, Bool.not_true, Bool.false_and]
  rw [LabelState.expire, kept, if_neg Bool.false_ne_true]

/-- While the text built is not complete, a step already pending means that this one is lost, and the slip count
goes up to 65,535 at most. -/
theorem expire_slips_of_incomplete {p : LabelParams} {l : LabelState} (h : l.run.passCount < p.passes) :
    (l.expire p).slips = if l.run.stepPending then min 65535 (l.slips + 1) else l.slips := by
  have lost : l.run.slips p = l.run.stepPending := by
    rw [LabelRun.slips, complete_of_lt h, Bool.not_false, Bool.true_and]
  simp only [LabelState.expire, lost, satInc_eq_min, Config.max16]

/-! ### The rows commanded alone (log entries 7 and 30) -/

theorem labelStepTimerExpiry_own {s : State} {v : Service} {p : LabelParams} (running : s.modes.mode = .running)
    (hv : v ∈ s.services) (distinct : (s.services.map (·.sid)).Nodup) (own : v.annex.mode = .own)
    (buffer : v.label.buffer = some p) (enabled : p.enabled = true) (scrolls : p.scrolls = true) :
    labelStepTimerExpiry v.sid s = { s with
      services := s.services.map (fun x => if x.sid = v.sid then { v with label := v.label.expire p } else x) } := by
  simp only [labelStepTimerExpiry, updateWhenPacked_running _ _ running, updateService_eq_replace _ hv distinct, own,
    buffer, enabled, scrolls, Bool.and_true, if_true]

theorem alertStepTimerExpiry_alert {s : State} {v : Service} {a : AlertLabel} (running : s.modes.mode = .running)
    (hv : v ∈ s.services) (distinct : (s.services.map (·.sid)).Nodup) (alert : v.annex.mode = .alert)
    (built : v.label.alert = some a) (scrolls : a.params.scrolls = true) :
    alertStepTimerExpiry v.sid s = { s with
      services := s.services.map (fun x => if x.sid = v.sid then
        { v with label := { v.label with alert := some { a with run := a.run.expire a.params } } } else x) } := by
  simp only [alertStepTimerExpiry, updateWhenPacked_running _ _ running, updateService_eq_replace _ hv distinct, alert,
    built, scrolls, if_true]

/-- Settles O27: each row replaces one service, and what its run becomes depends on whether the text built is
complete. -/
theorem labelStepsExpire : Obligations.LabelStepsExpire := by
  refine ⟨?own, ?alert, ?still⟩
  case own =>
    intro s v p running hv distinct own buffer enabled scrolls
    refine ⟨{ v with label := v.label.expire p },
      congrArg _ (labelStepTimerExpiry_own running hv distinct own buffer enabled scrolls), rfl, expire_timer p v.label.run,
      fun complete => ?_, fun incomplete => ⟨expire_of_incomplete incomplete, expire_slips_of_incomplete incomplete⟩⟩
    have run : (v.label.expire p).run = _ := expire_of_complete complete
    simp only [run, expire_slips_of_complete complete]
    exact ⟨stepFrom_eq scrolls _, rfl, rfl, rfl, rfl, rfl, rfl, trivial⟩
  case alert =>
    intro s v a running hv distinct alert built scrolls forwards
    refine ⟨a.run.expire a.params, congrArg _ (alertStepTimerExpiry_alert running hv distinct alert built scrolls),
      expire_timer a.params a.run, fun complete => ?_, expire_of_incomplete⟩
    simp only [expire_of_complete complete]
    exact ⟨stepFrom_forwards forwards _, rfl, rfl, rfl, rfl, rfl⟩
  case still =>
    exact fun s sid h => ⟨congrArg _ (updateWhenPacked_still _ _ h), congrArg _ (updateWhenPacked_still _ _ h)⟩

/-! ### What an owner does while it takes an outcome (R189) -/

/-- What an owner does counts only in the state that the port hands it. -/
theorem whileTaking_congr {f g : State → State} {s : State}
    (h : f { s with mp := { s.mp with completing := true } } = g { s with mp := { s.mp with completing := true } }) :
    whileTaking f s = whileTaking g s := by
  simp only [whileTaking, h]

/-- An update of one service leaves the port alone, so it is the same with an outcome being taken. -/
theorem whileTaking_updateService (sid : U16) (f : Service → Service) {s : State} (between : s.mp.completing = false) :
    whileTaking (updateService sid f) s = updateService sid f s := by
  simp [whileTaking, updateService, ← between]

/-- A read requested behind such an update enters the list, and no slot is granted. -/
theorem whileTaking_enterRead (p : Purpose) (addr : Addr) (len : Nat) (sid : U16) (f : Service → Service) {s : State}
    (between : s.mp.completing = false) :
    whileTaking (fun t => enterRead p addr len (updateService sid f t)) s =
      ask p none addr len (updateService sid f s) := by
  simp [whileTaking, enterRead, enter, ask, updateService, ← between]

/-! ### The ends of the reads of a label record (R102, R103) -/

/-- A poll wants a fetch when nothing is held or the revision read is not the reference (R102). -/
def FetchWanted (l : LabelState) (bytes : List Byte) : Prop :=
  l.buffer = none ∧ l.received = none ∨ u16At bytes 0 ≠ l.reference

/-- The reference is the received copy's revision, or the revision in use when there is no such copy (R102). -/
theorem reference_eq (l : LabelState) : l.reference = (l.received.map (·.revision)).getD l.revision := by
  unfold LabelState.reference
  cases l.received <;> rfl

theorem labelPollDone_wanted {s : State} {sid : U16} {v : Service} {e : PlanEntry} {bytes : List Byte}
    (kept : s.serviceOf sid = some v) (planned : s.entryOf sid = some e) (wanted : FetchWanted v.label bytes) :
    labelPollDone sid (.data bytes) s =
      enterRead (.labelFetch sid) e.labelAddr 210 (setLabelRead sid .fetching s) := by
  simp only [FetchWanted] at wanted
  simp [labelPollDone, kept, planned, wanted]

theorem labelPollDone_unwanted {s : State} {sid : U16} {v : Service} {e : PlanEntry} {bytes : List Byte}
    (kept : s.serviceOf sid = some v) (planned : s.entryOf sid = some e) (unwanted : ¬ FetchWanted v.label bytes) :
    labelPollDone sid (.data bytes) s = setLabelRead sid .idle s := by
  simp only [FetchWanted] at unwanted
  simp [labelPollDone, kept, planned, unwanted]

theorem labelPollDone_error (s : State) (sid : U16) : labelPollDone sid .error s = setLabelRead sid .idle s := by
  simp [labelPollDone]

/-- Two equal revisions make the copy good, and it is received normalised (R103). -/
theorem labelFetchDone_good {bytes : List Byte} (good : u16At bytes 0 = u16At bytes 208) (s : State) (sid : U16) :
    labelFetchDone sid (.data bytes) s = updateService sid (fun v => { v with label := { v.label with
      read := .idle
      received := some { params := labelOfRecord bytes, revision := u16At bytes 0 } } }) s := by
  simp [labelFetchDone, good]

/-- A torn copy is discarded (R103). -/
theorem labelFetchDone_torn {bytes : List Byte} (torn : u16At bytes 0 ≠ u16At bytes 208) (s : State) (sid : U16) :
    labelFetchDone sid (.data bytes) s = setLabelRead sid .idle s := by
  simp [labelFetchDone, setLabelRead, torn]

/-- Settles O42. The port frees the slot first, and counts a failure; then the label's owner acts, by the outcome. -/
theorem labelRecordRead : Obligations.LabelRecordRead := by
  intro i bytes v e s kept planned label idle reference wanted
  have wanted_iff : wanted ↔ FetchWanted v.label bytes := by rw [FetchWanted, reference_eq]
  refine ⟨fun poll len => ?poll, fun fetch len => ?fetch⟩
  case poll =>
    have between : (releaseSlot i s).mp.completing = false := poll.between
    have data := completePurpose_data (len ▸ poll)
    have failed := completePurpose_error poll.slot
    refine ⟨fun h => congrArg _ (data.trans ?_), fun h => congrArg _ (data.trans ?_), congrArg _ (failed.trans ?_)⟩
    · calc whileTaking (labelPollDone v.sid (.data bytes)) (releaseSlot i s)
          = whileTaking (fun t => enterRead (.labelFetch v.sid) e.labelAddr 210 (setLabelRead v.sid .fetching t))
              (releaseSlot i s) := whileTaking_congr (labelPollDone_wanted kept planned (wanted_iff.mp h))
        _ = _ := whileTaking_enterRead _ _ _ _ _ between
    · calc whileTaking (labelPollDone v.sid (.data bytes)) (releaseSlot i s)
          = whileTaking (setLabelRead v.sid .idle) (releaseSlot i s) :=
            whileTaking_congr (labelPollDone_unwanted kept planned (mt wanted_iff.mpr h))
        _ = _ := whileTaking_updateService _ _ between
    · exact (whileTaking_congr (labelPollDone_error _ _)).trans (whileTaking_updateService _ _ between)
  case fetch =>
    have between : (releaseSlot i s).mp.completing = false := fetch.between
    have data := completePurpose_data (len ▸ fetch)
    have failed := completePurpose_error fetch.slot
    refine ⟨fun good => congrArg _ (data.trans ?_), fun torn => congrArg _ (data.trans ?_), congrArg _ (failed.trans ?_)⟩
    · exact (whileTaking_congr (labelFetchDone_good good _ _)).trans (whileTaking_updateService _ _ between)
    · exact (whileTaking_congr (labelFetchDone_torn torn _ _)).trans (whileTaking_updateService _ _ between)
    · exact whileTaking_updateService v.sid _ between

end Sys2Proof.Labels
end

section
/-! The picture carousel of chapter 7: the expiry of the dwell timer (R129), the ends of a selection's reads (R121 to R123) and the
ends of a refill's reads (R124 to R126). The end of a read is a case split on what the record says, and each case sets the picture
state of one service, with at most one further read requested behind it. -/

namespace Sys2Proof.Pictures

open Sys2Proof Sys2Proof.Machine Sys2Proof.Labels

/-! ### The one service of an id among distinct ones -/

theorem serviceOf_of_mem {s : State} {v : Service} (hv : v ∈ s.services) (distinct : (s.services.map (·.sid)).Nodup) :
    s.serviceOf v.sid = some v := by
  obtain ⟨x, found⟩ := Option.isSome_iff_exists.mp
    (List.find?_isSome.mpr ⟨v, hv, beq_self_eq_true v.sid⟩ : (s.serviceOf v.sid).isSome)
  have hsid : x.sid = v.sid := by simpa using List.find?_some found
  have same : x = v := eq_of_sid_eq distinct (List.mem_of_find?_eq_some found) hv hsid
  exact found.trans (congrArg some same)

/-- An update that leaves the service of its id as it is leaves the state as it is. -/
theorem updateService_fixed {s : State} {v : Service} {f : Service → Service} (hv : v ∈ s.services)
    (distinct : (s.services.map (·.sid)).Nodup) (fixed : f v = v) : updateService v.sid f s = s := by
  have kept : ∀ x ∈ s.services, (if x.sid = v.sid then f v else x) = id x := fun x hx => by
    by_cases hsid : x.sid = v.sid
    · rw [if_pos hsid, fixed, eq_of_sid_eq distinct hx hv hsid, id]
    · rw [if_neg hsid, id]
  rw [updateService_eq_replace f hv distinct, List.map_congr_left kept, List.map_id]

theorem pictureOf_of_serviceOf {s : State} {sid : U16} {v : Service} (kept : s.serviceOf sid = some v) :
    s.pictureOf sid = some v.picture := by rw [State.pictureOf, kept, Option.map_some]

theorem updatePicture_eq_set {s : State} {v : Service} (f : PictureState → PictureState) (hv : v ∈ s.services)
    (distinct : (s.services.map (·.sid)).Nodup) :
    updatePicture v.sid f s = updatePicture v.sid (fun _ => f v.picture) s := by
  simp only [updatePicture, updateService_eq_replace _ hv distinct]

/-- An update behind a picture state just set takes the one set. -/
theorem updatePicture_set (sid : U16) (f : PictureState → PictureState) (p : PictureState) (s : State) :
    updatePicture sid f (updatePicture sid (fun _ => p) s) = updatePicture sid (fun _ => f p) s := by
  simp only [updatePicture, updateService, List.map_map, State.mk.injEq, true_and, and_true]
  refine List.map_congr_left fun x _ => ?_
  by_cases hsid : x.sid = sid <;> simp [hsid]

/-! ### The dwell timer commanded alone (R129; log entries 4, 7 and 30) -/

theorem dwellTimerExpiry_own {s : State} {v : Service} (running : s.modes.mode = .running) (hv : v ∈ s.services)
    (distinct : (s.services.map (·.sid)).Nodup) (own : v.annex.mode = .own) (dwelling : v.picture.carousel = .dwelling) :
    dwellTimerExpiry v.sid s = { s with services := s.services.map (fun x =>
      if x.sid = v.sid then { v with picture := { v.picture with carousel := .idle, dwellTimer := 0 } } else x) } := by
  simp only [dwellTimerExpiry, updateWhenPacked_running _ _ running, updateService_eq_replace _ hv distinct, own, dwelling,
    beq_self_eq_true, if_true]

/-- In a frame that is packed, a service taken over keeps its timer, and one that is not DWELLING has none to expire. -/
theorem dwellTimerExpiry_unmoved {s : State} {v : Service} (running : s.modes.mode = .running) (hv : v ∈ s.services)
    (distinct : (s.services.map (·.sid)).Nodup) (unmoved : v.annex.mode = .alert ∨ v.picture.carousel ≠ .dwelling) :
    dwellTimerExpiry v.sid s = s := by
  rw [dwellTimerExpiry, updateWhenPacked_running _ _ running]
  refine updateService_fixed hv distinct ?_
  rcases unmoved with alert | awake
  · simp only [alert]
  · cases v.annex.mode <;> simp [awake]

/-- Settles O28: in a frame that is packed the row replaces one service, when its credit mode and its carousel let it. -/
theorem dwellExpires : Obligations.DwellExpires := by
  intro s v hv distinct
  refine ⟨fun running own dwelling => congrArg _ (dwellTimerExpiry_own running hv distinct own dwelling),
    fun stays => congrArg Host.Outcome.next ?_⟩
  by_cases running : s.modes.mode = .running
  · exact dwellTimerExpiry_unmoved running hv distinct (stays.resolve_left (not_not_intro running))
  · exact updateWhenPacked_still _ _ running

/-! ### The end of a read whose owner sets one service (R189) -/

/-- A READ ends with DATA and its owner, whatever the port holds, updates one service: so does the completion, with the slot
FREE. -/
theorem completePurpose_updates {p : Purpose} {i : Fin 8} {bytes : List Byte} {s : State} {sid : U16} {f : Service → Service}
    (reading : Reading p i bytes.length s)
    (owner : ∀ m, ownerTakes p (.data bytes) { s with mp := m } = updateService sid f { s with mp := m }) :
    completePurpose p (.data bytes) s = updateService sid f (releaseSlot i s) :=
  calc completePurpose p (.data bytes) s
      = whileTaking (ownerTakes p (.data bytes)) (releaseSlot i s) := completePurpose_data reading
    _ = whileTaking (updateService sid f) (releaseSlot i s) := whileTaking_congr (owner _)
    _ = updateService sid f (releaseSlot i s) := whileTaking_updateService sid f reading.between

/-- When the owner requests a further read behind the update, that read enters the list and no slot is granted. -/
theorem completePurpose_reads_on {p q : Purpose} {addr : Addr} {len : Nat} {i : Fin 8} {bytes : List Byte} {s : State}
    {sid : U16} {f : Service → Service} (reading : Reading p i bytes.length s)
    (owner : ∀ m, ownerTakes p (.data bytes) { s with mp := m } =
      enterRead q addr len (updateService sid f { s with mp := m })) :
    completePurpose p (.data bytes) s = ask q none addr len (updateService sid f (releaseSlot i s)) :=
  calc completePurpose p (.data bytes) s
      = whileTaking (ownerTakes p (.data bytes)) (releaseSlot i s) := completePurpose_data reading
    _ = whileTaking (fun t => enterRead q addr len (updateService sid f t)) (releaseSlot i s) := whileTaking_congr (owner _)
    _ = ask q none addr len (updateService sid f (releaseSlot i s)) := whileTaking_enterRead q addr len sid f reading.between

/-- A read that ends with ERROR is counted, with FAULT raised, before its owner updates one service (R191). -/
theorem completePurpose_error_updates {p : Purpose} {i : Fin 8} {len : Nat} {s : State} {sid : U16} {f : Service → Service}
    (reading : Reading p i len s)
    (owner : ∀ m w, ownerTakes p .error { s with mp := m, sw := w } = updateService sid f { s with mp := m, sw := w }) :
    completePurpose p .error s = updateService sid f (countEnd .error (releaseSlot i s)) :=
  calc completePurpose p .error s
      = whileTaking (ownerTakes p .error) (countEnd .error (releaseSlot i s)) := completePurpose_error reading.slot
    _ = whileTaking (updateService sid f) (countEnd .error (releaseSlot i s)) := whileTaking_congr (owner _ _)
    _ = updateService sid f (countEnd .error (releaseSlot i s)) := whileTaking_updateService sid f reading.between

/-! ### The reads of a selection (R118, R121 to R123) -/

theorem fieldAt_one (bytes : List Byte) (off : Nat) : fieldAt bytes off 1 = (byteAt bytes off).toNat := by
  simp only [fieldAt, slice, byteAt, List.getD_eq_getElem?_getD, ← List.head?_drop]
  cases bytes.drop off <;> simp [beNat]

/-- The header's count is taken as at most 8 (R118), and the walk goes on at the next index while the revision is the one seen and
the list reaches so far (R121). -/
theorem takeHeader_eq (bytes : List Byte) (p : PictureState) :
    p.takeHeader bytes = { p with
      listSeen := some (u16At bytes 0)
      count := min 8 (byteAt bytes 2).toNat
      nextIndex := if p.listSeen = some (u16At bytes 0) ∧ p.nextIndex < min 8 (byteAt bytes 2).toNat then p.nextIndex else 0
      skips := 0 } := by
  simp only [PictureState.takeHeader, fieldAt_one]
  by_cases seen : p.listSeen = some (u16At bytes 0) <;> simp [seen]

section
variable {s : State} {sid : U16} {p q : PictureState} {bytes : List Byte}

theorem pictureHeaderDone_empty (found : s.pictureOf sid = some p) (taken : p.takeHeader bytes = q) (empty : q.count = 0) :
    pictureHeaderDone sid (.data bytes) s = updatePicture sid (fun _ => q.emptyWalk) s := by
  simp [pictureHeaderDone, found, taken, empty]

theorem pictureHeaderDone_listed (found : s.pictureOf sid = some p) (taken : p.takeHeader bytes = q) (listed : 1 ≤ q.count) :
    pictureHeaderDone sid (.data bytes) s =
      enterRead (.listEntry sid) (s.listEntryAddr sid q.nextIndex) 32
        (updatePicture sid (fun _ => { q with selection := .entry }) s) := by
  simp [pictureHeaderDone, found, taken, Nat.ne_of_gt listed, readEntry]

theorem pictureEntryDone_eligible (found : s.pictureOf sid = some p) (eligible : (listEntryOf bytes).eligible = true) :
    pictureEntryDone sid (.data bytes) s =
      enterRead (.refillRecord sid) (s.listEntryAddr sid p.nextIndex) 32
        (updatePicture sid (fun _ => { p.takeEntry (listEntryOf bytes) with refill := .record }) s) := by
  simp only [pictureEntryDone, found, eligible, if_true, beginRefill, updatePicture_set]
  rfl

theorem pictureEntryDone_exhausted (found : s.pictureOf sid = some p) (ineligible : (listEntryOf bytes).eligible = false)
    (last : p.count ≤ p.skips + 1) :
    pictureEntryDone sid (.data bytes) s = updatePicture sid (fun _ => p.skipEntry.emptyWalk) s := by
  simp [pictureEntryDone, found, ineligible, PictureState.skipEntry, last]

theorem pictureEntryDone_skipped (found : s.pictureOf sid = some p) (ineligible : (listEntryOf bytes).eligible = false)
    (more : p.skips + 1 < p.count) :
    pictureEntryDone sid (.data bytes) s =
      enterRead (.listEntry sid) (s.listEntryAddr sid p.skipEntry.nextIndex) 32
        (updatePicture sid (fun _ => { p.skipEntry with selection := .entry }) s) := by
  simp [pictureEntryDone, found, ineligible, PictureState.skipEntry, Nat.not_le.mpr more, readEntry]

end

/-- Settles O43. The header's count decides, then the entry's eligibility and whether any entry is left to try. -/
theorem pictureSelection : Obligations.PictureSelection := by
  intro i bytes v s kept p picture
  have found : s.pictureOf v.sid = some p := pictureOf_of_serviceOf kept
  refine ⟨fun reading len => ?header, fun reading len => ?entry⟩
  case header =>
    have reading : Reading (.listHeader v.sid) i bytes.length s := len ▸ reading
    intro count next read
    have taken : p.takeHeader bytes = read := takeHeader_eq bytes p
    refine ⟨fun empty => congrArg _ (completePurpose_updates reading fun m => ?_),
      fun listed => congrArg _ (completePurpose_reads_on reading fun m => ?_)⟩
    · exact pictureHeaderDone_empty (q := read) found taken empty
    · exact pictureHeaderDone_listed (q := read) found taken listed
  case entry =>
    have reading : Reading (.listEntry v.sid) i bytes.length s := len ▸ reading
    intro entry skipped
    refine ⟨fun eligible => congrArg _ (completePurpose_reads_on reading fun m => ?_),
      fun ineligible last => congrArg _ (completePurpose_updates reading fun m => ?_),
      fun ineligible more => congrArg _ (completePurpose_reads_on reading fun m => ?_)⟩
    · exact pictureEntryDone_eligible found eligible
    · exact pictureEntryDone_exhausted found ineligible last
    · exact pictureEntryDone_skipped found ineligible more

/-! ### The reads of a refill (R124 to R126) -/

/-- An abort already pending stays, and the walk goes on after the entry, round from the eighth (R126). -/
theorem abandon_eq (p : PictureState) :
    p.abandon = { p with
      abort := some (p.abort.getD
        { entry := p.entry, toggle := p.pass.toggle, segments := BitVec.ofNat 8 p.pass.segment })
      staging := [], pass := { p.pass with offset := 0, segment := 0, crc := 0xFFFF#16 }, refill := .idle
      passCount := 0, nextIndex := if p.entry = 7 then 0 else p.entry + 1, carousel := .idle } := by
  have after : nextEntry p.entry = if p.entry = 7 then 0 else p.entry + 1 := by simp [nextEntry]
  rw [PictureState.abandon, after]
  cases p.abort <;> rfl

section
variable {s : State} {v : Service} {bytes : List Byte}

theorem refillRecordDone_changed (kept : s.serviceOf v.sid = some v) (changed : u16At bytes 16 ≠ v.picture.passRevision) :
    refillRecordDone v.sid (.data bytes) s = updatePicture v.sid (fun _ => v.picture.abandon) s := by
  simp [refillRecordDone, pictureOf_of_serviceOf kept, changed]

theorem refillRecordDone_full (hv : v ∈ s.services) (distinct : (s.services.map (·.sid)).Nodup)
    (same : u16At bytes 16 = v.picture.passRevision) (full : v.picture.refillSize = 0) :
    refillRecordDone v.sid (.data bytes) s = updatePicture v.sid (fun _ => { v.picture with refill := .idle }) s := by
  rw [← updatePicture_eq_set (fun p => { p with refill := .idle }) hv distinct]
  simp [refillRecordDone, pictureOf_of_serviceOf (serviceOf_of_mem hv distinct), same, full]

theorem refillRecordDone_wanted (hv : v ∈ s.services) (distinct : (s.services.map (·.sid)).Nodup)
    (same : u16At bytes 16 = v.picture.passRevision) (wanted : 1 ≤ v.picture.refillSize) :
    refillRecordDone v.sid (.data bytes) s =
      enterRead (.refillData v.sid) (addrPlus v.picture.object.addr v.picture.stagingEnd) v.picture.refillSize
        (updatePicture v.sid (fun _ => { v.picture with refill := .data }) s) := by
  rw [← updatePicture_eq_set (fun p => { p with refill := .data }) hv distinct]
  simp [refillRecordDone, pictureOf_of_serviceOf (serviceOf_of_mem hv distinct), same, Nat.ne_of_gt wanted]

theorem refillDataDone_data (hv : v ∈ s.services) (distinct : (s.services.map (·.sid)).Nodup) :
    refillDataDone v.sid (.data bytes) s =
      updatePicture v.sid (fun _ => { v.picture with refill := .idle, staging := v.picture.staging ++ bytes }) s :=
  updatePicture_eq_set (fun p => { p with refill := .idle, staging := p.staging ++ bytes }) hv distinct

theorem refillDataDone_error (hv : v ∈ s.services) (distinct : (s.services.map (·.sid)).Nodup) :
    refillDataDone v.sid .error s = updatePicture v.sid (fun _ => { v.picture with refill := .idle }) s :=
  updatePicture_eq_set (fun p => { p with refill := .idle }) hv distinct

end

/-- Settles O44. The entry's revision decides, then the room for another read; the end of that read ends the refill. -/
theorem refillReads : Obligations.RefillReads := by
  intro i bytes v s hv distinct p picture stagingEnd n
  refine ⟨fun reading len => ?record, fun reading => ⟨?data, ?error⟩⟩
  case record =>
    have reading : Reading (.refillRecord v.sid) i bytes.length s := len ▸ reading
    refine ⟨fun changed => ?_, fun same full => ?_, fun same wanted => ?_⟩
    · rw [← abandon_eq]
      exact congrArg _ (completePurpose_updates reading fun m =>
        refillRecordDone_changed (serviceOf_of_mem hv distinct) changed)
    · exact congrArg _ (completePurpose_updates reading fun m => refillRecordDone_full hv distinct same full)
    · exact congrArg _ (completePurpose_reads_on reading fun m => refillRecordDone_wanted hv distinct same wanted)
  case data =>
    exact congrArg _ (completePurpose_updates reading fun m => refillDataDone_data hv distinct)
  case error =>
    exact congrArg _ (completePurpose_error_updates reading fun m w => refillDataDone_error hv distinct)

end Sys2Proof.Pictures
end

section
/-! The Memory Port of chapter 11: the grant of the front request to the lowest FREE slot (R185 to R187), the promotion of the
oldest BULK request (R188), the grants at the end of the quiet time (R193), and the ends of transfers at their slots (R189 to
R192). -/

namespace Sys2Proof.Port

open Sys2Proof Sys2Proof.Machine

/-! ### The lowest FREE slot (R187) -/

theorem freeSlot_eq_some_iff {m : MemoryPort} {i : Fin 8} :
    m.freeSlot = some i ↔ m.slots[i] = none ∧ ∀ k : Fin 8, k < i → m.slots[k] ≠ none := by
  rw [MemoryPort.freeSlot, List.find?_eq_some_iff_getElem]
  simp only [Option.isNone_iff_eq_none]
  constructor
  · rintro ⟨free, j, hj, rfl, lower⟩
    exact ⟨free, fun k hk => by simpa [Option.isSome_iff_ne_none] using lower k (by simpa using Fin.lt_def.mp hk)⟩
  · rintro ⟨free, lower⟩
    exact ⟨free, i, by simp, by simp, fun j hj => by simpa [Option.isSome_iff_ne_none] using lower ⟨j, by omega⟩ hj⟩

theorem freeSlot_eq_none_iff {m : MemoryPort} : m.freeSlot = none ↔ ∀ k : Fin 8, m.slots[k] ≠ none := by
  simp [MemoryPort.freeSlot, List.find?_eq_none]

/-! ### The front request (R185, R187) -/

/-- The request between the older and the newer ones is the oldest of the highest class (R187). -/
def IsFront (older : List Request) (r : Request) (newer : List Request) : Prop :=
  (∀ x ∈ older, r.cls.rank < x.cls.rank) ∧ ∀ x ∈ newer, r.cls.rank ≤ x.cls.rank

theorem exists_front {w : List Request} (waits : w ≠ []) :
    ∃ older r newer, w = older ++ r :: newer ∧ IsFront older r newer := by
  induction w with
  | nil => exact absurd rfl waits
  | cons a w ih =>
    by_cases alone : w = []
    · exact ⟨[], a, w, rfl, by simp, by simp [alone]⟩
    obtain ⟨older, r, newer, rfl, behind, notBefore⟩ := ih alone
    by_cases first : a.cls.rank ≤ r.cls.rank
    · refine ⟨[], a, _, rfl, by simp, fun x hx => ?_⟩
      rcases List.mem_append.mp hx with hx | hx
      · exact Nat.le_trans first (Nat.le_of_lt (behind x hx))
      · rcases List.mem_cons.mp hx with rfl | hx
        · exact first
        · exact Nat.le_trans first (notBefore x hx)
    · exact ⟨a :: older, r, newer, rfl, List.forall_mem_cons.mpr ⟨Nat.lt_of_not_le first, behind⟩, notBefore⟩

theorem oldestOf_eq_none_iff {c : Machine.Class} {w : List Request} : oldestOf c w = none ↔ ∀ x ∈ w, x.cls ≠ c := by
  simp [oldestOf]

theorem oldestOf_append {c : Machine.Class} {older : List Request} {r : Request} (newer : List Request) (hr : r.cls = c)
    (absent : ∀ x ∈ older, x.cls ≠ c) : oldestOf c (older ++ r :: newer) = some older.length := by
  have none_older : older.findIdx? (·.cls == c) = none := oldestOf_eq_none_iff.mpr absent
  simp [oldestOf, List.findIdx?_append, none_older, List.findIdx?_cons, hr]

theorem frontPlace_of_isFront {older newer : List Request} {r : Request} (front : IsFront older r newer) :
    frontPlace (older ++ r :: newer) = some older.length := by
  obtain ⟨behind, notBefore⟩ := front
  have oldest : oldestOf r.cls (older ++ r :: newer) = some older.length :=
    oldestOf_append newer rfl fun x hx same => Nat.lt_irrefl _ (same ▸ behind x hx)
  have higher (c : Machine.Class) (h : c.rank < r.cls.rank) : oldestOf c (older ++ r :: newer) = none := by
    refine oldestOf_eq_none_iff.mpr fun x hx same => Nat.not_le.mpr h ?_
    subst same
    rcases List.mem_append.mp hx with hx | hx
    · exact Nat.le_of_lt (behind x hx)
    · rcases List.mem_cons.mp hx with rfl | hx
      · exact Nat.le_refl _
      · exact notBefore x hx
  unfold frontPlace
  cases hc : r.cls <;> rw [hc] at oldest higher
  case urgent => simp [oldest]
  case timed => simp [oldest, higher .urgent (by decide)]
  case control => simp [oldest, higher .urgent (by decide), higher .timed (by decide)]
  case bulk => simp [oldest, higher .urgent (by decide), higher .timed (by decide), higher .control (by decide)]

/-! ### A grant (R187, R193) -/

/-- What a grant means to its owner: CP's poll is IN_FLIGHT, and the first transfer of a write-back makes it WRITING with the next
status sequence (2.3, R36). -/
theorem grantedTo_eq (p : Purpose) (s : State) :
    grantedTo p s = { s with
      cp := { s.cp with poll := if p = .rootPoll then .inFlight else s.cp.poll }
      sw := if p = .status ∧ s.sw.state = .waiting then
        { s.sw with state := .writing, sequence := s.sw.sequence + 1 } else s.sw } := by
  cases p with
  | status => by_cases waits : s.sw.state = .waiting <;> simp [grantedTo, waits]
  | _ => simp [grantedTo]

theorem granted_front {m : MemoryPort} {older newer : List Request} {r : Request} (waits : m.waiting = older ++ r :: newer)
    (now : Nat) (i : Fin 8) :
    m.granted now i older.length r = { m with
      waiting := older ++ newer
      slots := m.slots.set i (some { request := r, grant := m.grantCounter, grantTime := now, withdrawn := false })
      grantCounter := m.grantCounter + 1 } := by
  simp [MemoryPort.granted, waits, List.eraseIdx_append_of_length_le]

/-- No grant is made with none waiting, with no slot FREE, or in the quiet time (R187, R193). -/
theorem grantOne_eq_self {s : State}
    (still : s.mp.waiting = [] ∨ s.mp.freeSlot = none ∨ s.mp.quietEnd ≠ none) : grantOne s = s := by
  rcases grantOne_cases s with h | ⟨i, k, r, quiet, free, -, waits, -⟩
  · exact h
  · rcases still with h | h | h
    · simp [h] at waits
    · simp [h] at free
    · exact absurd quiet h

/-- A grant takes the front request to the lowest FREE slot (R187). -/
theorem grantOne_front {s : State} {i : Fin 8} {older newer : List Request} {r : Request} (quiet : s.mp.quietEnd = none)
    (free : s.mp.freeSlot = some i) (waits : s.mp.waiting = older ++ r :: newer) (front : IsFront older r newer) :
    grantOne s = grantedTo r.purpose { s with mp := s.mp.granted s.now i older.length r } := by
  have place : frontPlace s.mp.waiting = some older.length := waits ▸ frontPlace_of_isFront front
  have found : s.mp.waiting[older.length]? = some r := by simp [waits]
  simp [grantOne, quiet, free, place, found, MemoryPort.granted]

/-- Settles O51. With a slot FREE and a request waiting outside the quiet time the front request is granted. -/
theorem grantTakesFront : Obligations.GrantTakesFront := by
  intro s
  refine ⟨fun still => ?_, fun quiet waits i free lower => ?_⟩
  · rw [← freeSlot_eq_none_iff] at still
    exact congrArg _ (grantOne_eq_self still)
  · obtain ⟨older, r, newer, split, front⟩ := exists_front waits
    have granted := grantOne_front quiet (freeSlot_eq_some_iff.mpr ⟨free, lower⟩) split front
    rw [granted_front split, grantedTo_eq] at granted
    exact ⟨_, older, r, newer, congrArg Host.Outcome.next granted, split, front.1, front.2, rfl, rfl, rfl, rfl⟩

/-! ### The grants at the end of the quiet time (R187, R193) -/

/-- How many slots are FREE. -/
def freeSlots (m : MemoryPort) : Nat := m.slots.count none

/-- No grant is left to make: no slot is FREE, or no request waits (R187). -/
def Exhausted (m : MemoryPort) : Prop := m.freeSlot = none ∨ m.waiting = []

/-- A port after some grants: each took a request from the list and a grant number (R187). -/
structure GrantedTimes (n : Nat) (m m' : MemoryPort) : Prop where
  waiting : m'.waiting.length + n = m.waiting.length
  counter : m'.grantCounter = m.grantCounter + BitVec.ofNat 8 n
  quiet   : m'.quietEnd = m.quietEnd

theorem GrantedTimes.zero (m : MemoryPort) : GrantedTimes 0 m m := ⟨rfl, by simp, rfl⟩

theorem GrantedTimes.trans {n k : Nat} {a b c : MemoryPort} (h : GrantedTimes n a b) (g : GrantedTimes k b c) :
    GrantedTimes (n + k) a c where
  waiting := by rw [← h.waiting, ← g.waiting]; omega
  counter := by rw [g.counter, h.counter, BitVec.ofNat_add, BitVec.add_assoc]
  quiet := g.quiet.trans h.quiet

theorem grantOne_of_exhausted {s : State} (h : Exhausted s.mp) : grantOne s = s :=
  grantOne_eq_self (h.elim (fun full => .inr (.inl full)) .inl)

theorem grantUpTo_of_exhausted (n : Nat) {s : State} (h : Exhausted s.mp) : grantUpTo n s = s := by
  induction n with
  | zero => rfl
  | succ n ih => rw [grantUpTo, grantOne_of_exhausted h, ih]

theorem freeSlots_pos {m : MemoryPort} {i : Fin 8} (free : m.slots[i] = none) : 0 < freeSlots m :=
  Vector.count_pos_iff.mpr (free ▸ Vector.getElem_mem i.isLt)

/-- While a slot is FREE and a request waits, a grant takes one of each. -/
theorem grantOne_takes {s : State} (quiet : s.mp.quietEnd = none) (more : ¬ Exhausted s.mp) :
    GrantedTimes 1 s.mp (grantOne s).mp ∧ freeSlots (grantOne s).mp + 1 = freeSlots s.mp := by
  obtain ⟨full, waits⟩ := not_or.mp more
  obtain ⟨i, free⟩ := Option.ne_none_iff_exists'.mp full
  obtain ⟨older, r, newer, split, front⟩ := exists_front waits
  rw [grantOne_front quiet free split front, grantedTo_mp, granted_front split]
  refine ⟨⟨by simp [split, Nat.add_assoc], rfl, rfl⟩, ?_⟩
  have isFree : s.mp.slots[i.val] = none := (freeSlot_eq_some_iff.mp free).1
  have counted : 0 < s.mp.slots.count none := freeSlots_pos (i := i) isFree
  simpa [freeSlots, Vector.count_set, isFree] using Nat.sub_add_cancel counted

/-- As many grants as there are FREE slots leave none to make (R187). -/
theorem grantUpTo_exhausts (n : Nat) {s : State} (quiet : s.mp.quietEnd = none) (enough : freeSlots s.mp ≤ n) :
    Exhausted (grantUpTo n s).mp ∧ ∃ k, GrantedTimes k s.mp (grantUpTo n s).mp := by
  induction n generalizing s with
  | zero =>
    refine ⟨.inl (Option.eq_none_iff_forall_ne_some.mpr fun i free => ?_), 0, .zero _⟩
    exact absurd (freeSlots_pos (freeSlot_eq_some_iff.mp free).1) (Nat.not_lt.mpr enough)
  | succ n ih =>
    by_cases done : Exhausted s.mp
    · rw [grantUpTo_of_exhausted (n + 1) done]
      exact ⟨done, 0, .zero _⟩
    · obtain ⟨taken, fewer⟩ := grantOne_takes quiet done
      obtain ⟨ended, k, granted⟩ := ih (taken.quiet.trans quiet) (by omega)
      exact ⟨ended, 1 + k, taken.trans granted⟩

/-- Grants go on until no slot is FREE or no request waits, for there are eight slots (R187). -/
theorem grantAll_exhausts {s : State} (quiet : s.mp.quietEnd = none) :
    Exhausted (grantAll s).mp ∧ ∃ k, GrantedTimes k s.mp (grantAll s).mp :=
  grantUpTo_exhausts 8 quiet Vector.count_le_size

/-! ### Promotion (R188) -/

/-- The oldest waiting BULK request is promoted to CONTROL, its place and its entry time kept (R188). -/
theorem promoteBulk_oldest {s : State} {older newer : List Request} {r : Request} (waits : s.mp.waiting = older ++ r :: newer)
    (first : ∀ x ∈ older, x.cls ≠ .bulk) (bulk : r.cls = .bulk) :
    promoteBulk s = { s with
      now := max s.now (r.entry + 12000)
      mp := { s.mp with waiting := older ++ { r with cls := .control } :: newer } } := by
  have place : oldestOf .bulk s.mp.waiting = some older.length := waits ▸ oldestOf_append newer bulk first
  have found : s.mp.waiting[older.length]? = some r := by simp [waits]
  simp only [promoteBulk, place, found]
  simp [waits, reachTime, ms]

theorem promoteBulk_none {s : State} (noBulk : ∀ r ∈ s.mp.waiting, r.cls ≠ .bulk) : promoteBulk s = s := by
  simp [promoteBulk, oldestOf_eq_none_iff.mpr noBulk]

theorem endQuiet_past {s : State} (past : s.mp.quietEnd = none) : endQuiet s = s := by
  simp [endQuiet, past]

/-- The clock reaches the end of the quiet time, and grants are made (R193). -/
theorem endQuiet_running {s : State} {moment : Nat} (running : s.mp.quietEnd = some moment) :
    endQuiet s = grantAll (reachTime moment { s with mp := { s.mp with quietEnd := none } }) := by
  simp only [endQuiet, running]

/-- Settles O52. The oldest BULK request has its place by its class, and the quiet time's end grants while any is left. -/
theorem promotionAndQuietEnd : Obligations.PromotionAndQuietEnd := by
  intro s
  refine ⟨fun noBulk => congrArg Host.Outcome.next (promoteBulk_none noBulk),
    fun older r newer waits first bulk => congrArg _ (promoteBulk_oldest waits first bulk),
    fun past => congrArg Host.Outcome.next (endQuiet_past past), fun moment running => ?_⟩
  obtain ⟨exhausted, k, granted⟩ :=
    grantAll_exhausts (s := reachTime moment { s with mp := { s.mp with quietEnd := none } }) rfl
  have taken : s.mp.waiting.length - _ = k := Nat.sub_eq_of_eq_add' granted.waiting.symm
  refine ⟨_, congrArg Host.Outcome.next (endQuiet_running running), granted.quiet, by simp,
    exhausted.imp freeSlot_eq_none_iff.mp id, ?_, by simp⟩
  rw [taken]
  exact granted.counter

/-! ### The end of a transfer at its slot (R189 to R192) -/

/-- A response to a FREE slot, or with another grant number, is ignored (R189). -/
theorem busResponse_unmatched {s : State} {i : Fin 8} {grant : BitVec 8} (o : BusOutcome)
    (other : ∀ f, s.mp.slots[i] = some f → f.grant ≠ grant) : busResponse i grant o s = s := by
  unfold busResponse
  split
  · next f busy => simp [other f busy]
  · rfl

theorem busResponse_matched {s : State} {i : Fin 8} {f : InFlight} (o : BusOutcome) (busy : s.mp.slots[i] = some f) :
    busResponse i f.grant o s = completeSlot i (toTransfer o) s := by
  simp [busResponse, busy]

theorem completeSlot_free {s : State} {i : Fin 8} (o : TransferOutcome) (free : s.mp.slots[i] = none) :
    completeSlot i o s = s := by
  simp [completeSlot, free]

/-- The state when a transfer ends with an outcome: a timeout is 4 ms after the grant, the slot is FREE, and a failure is counted,
with FAULT raised (R189 to R191). -/
def ended (i : Fin 8) (f : InFlight) (o : TransferOutcome) (s : State) : State :=
  countEnd o (releaseSlot i (if o = .timeout then reachTime (f.grantTime + ms 4) s else s))

/-- A transfer withdrawn only ends: its outcome is discarded (R192). -/
theorem completeSlot_withdrawn {s : State} {i : Fin 8} {f : InFlight} (o : TransferOutcome) (busy : s.mp.slots[i] = some f)
    (gone : f.withdrawn = true) : completeSlot i o s = ended i f o s := by
  simp [completeSlot, busy, gone, ended]

/-- A transfer that its owner still wants ends, and its outcome is handed to the owner (R189, R190). -/
theorem completeSlot_wanted {s : State} {i : Fin 8} {f : InFlight} (o : TransferOutcome) (busy : s.mp.slots[i] = some f)
    (wanted : f.withdrawn = false) : completeSlot i o s = handOutcome f.request o (ended i f o s) := by
  simp [completeSlot, busy, wanted, ended]

theorem ended_completing (i : Fin 8) (f : InFlight) (o : TransferOutcome) (s : State) :
    (ended i f o s).mp.completing = s.mp.completing := by
  cases o <;> simp [ended, countEnd]

theorem ended_data (i : Fin 8) (f : InFlight) (bytes : List Byte) (s : State) :
    ended i f (.data bytes) s = { s with mp := { s.mp with slots := s.mp.slots.set i none } } := by
  simp [ended, countEnd, releaseSlot]

theorem ended_error (i : Fin 8) (f : InFlight) (s : State) :
    ended i f .error s = { s with
      mp := { s.mp with slots := s.mp.slots.set i none, faults := min 4294967295 (s.mp.faults + 1) }
      sw := { s.sw with cause := s.sw.cause ||| Cause.fault.word } } := by
  simp [ended, countEnd, releaseSlot, raise, Labels.satInc_eq_min, Config.max32]

theorem ended_timeout (i : Fin 8) (f : InFlight) (s : State) :
    ended i f .timeout s = { s with
      now := max s.now (f.grantTime + 4000)
      mp := { s.mp with slots := s.mp.slots.set i none, timeouts := min 4294967295 (s.mp.timeouts + 1) }
      sw := { s.sw with cause := s.sw.cause ||| Cause.fault.word } } := by
  simp [ended, countEnd, releaseSlot, raise, reachTime, Labels.satInc_eq_min, Config.max32, ms]

/-- A READ answered in full hands its bytes to the owner (R183, R189). -/
theorem handOutcome_read {r : Request} {bytes : List Byte} (read : r.data = none) (len : r.len = bytes.length) (s : State) :
    handOutcome r (.data bytes) s = whileTaking (ownerTakes r.purpose (.data bytes)) s := by
  simp [handOutcome, deliveredOutcome, isShort, read, len, deliver_full, whileTaking]

theorem handOutcome_timeout (r : Request) (s : State) :
    handOutcome r .timeout s = whileTaking (ownerTakes r.purpose .timeout) s := by
  simp [handOutcome, deliveredOutcome, isShort, whileTaking]

/-- The end of the text read leaves the port alone, so it is the same with an outcome being taken (R164). -/
theorem whileTaking_alertTextDone (o : TransferOutcome) {s : State} (between : s.mp.completing = false) :
    whileTaking (alertTextDone o) s = alertTextDone o s := by
  simp [whileTaking, alertTextDone, State.defaultText, ← between]

/-- The default text is that of the TEXT region when it is VALID (R164, R179). -/
theorem defaultText_eq (s : State) :
    s.defaultText = if s.ss.text.state = .valid then s.ss.text.bytes.take 128 else [] := by
  by_cases valid : s.ss.text.state = .valid <;> simp [State.defaultText, Region.readable, valid]

/-- The READ of an alert cell's text answered in full: the cell is COMPLETE with the bytes (R164, R189). -/
theorem completeSlot_alertText_read {s : State} {i : Fin 8} {f : InFlight} {bytes : List Byte} {c : CellRequest}
    (busy : s.mp.slots[i] = some f) (wanted : f.withdrawn = false) (text : f.request.purpose = .alertText)
    (read : f.request.data = none) (len : f.request.len = bytes.length) (between : s.mp.completing = false)
    (fetching : s.ac.cell = some c) :
    completeSlot i (.data bytes) s = { s with
      mp := { s.mp with slots := s.mp.slots.set i none }
      ac := { s.ac with cell := some { c with complete := true, text := bytes } } } :=
  calc completeSlot i (.data bytes) s
      = whileTaking (alertTextDone (.data bytes)) (ended i f (.data bytes) s) := by
        rw [completeSlot_wanted _ busy wanted, handOutcome_read read len, text]; rfl
    _ = alertTextDone (.data bytes) (ended i f (.data bytes) s) :=
        whileTaking_alertTextDone _ ((ended_completing i f _ s).trans between)
    _ = _ := by simp only [ended_data, alertTextDone, fetching, Option.map_some]

/-- The READ of an alert cell's text timed out: the cell is COMPLETE with the default text (R164, R190). -/
theorem completeSlot_alertText_timeout {s : State} {i : Fin 8} {f : InFlight} {c : CellRequest}
    (busy : s.mp.slots[i] = some f) (wanted : f.withdrawn = false) (text : f.request.purpose = .alertText)
    (between : s.mp.completing = false) (fetching : s.ac.cell = some c) :
    completeSlot i .timeout s = { s with
      now := max s.now (f.grantTime + 4000)
      mp := { s.mp with slots := s.mp.slots.set i none, timeouts := min 4294967295 (s.mp.timeouts + 1) }
      sw := { s.sw with cause := s.sw.cause ||| Cause.fault.word }
      ac := { s.ac with cell := some { c with
        complete := true, text := if s.ss.text.state = .valid then s.ss.text.bytes.take 128 else [] } } } :=
  calc completeSlot i .timeout s
      = whileTaking (alertTextDone .timeout) (ended i f .timeout s) := by
        rw [completeSlot_wanted _ busy wanted, handOutcome_timeout, text]; rfl
    _ = alertTextDone .timeout (ended i f .timeout s) :=
        whileTaking_alertTextDone _ ((ended_completing i f _ s).trans between)
    _ = _ := by simp only [ended_timeout, alertTextDone, fetching, Option.map_some, defaultText_eq]

/-- Settles O53. The slot decides whether the transfer ends, its withdrawn flag whether the owner hears of it. -/
theorem responsesMatchTheirSlot : Obligations.ResponsesMatchTheirSlot := by
  intro s i grant o
  refine ⟨fun other => ?unmatched, fun free => congrArg _ (completeSlot_free _ free), ?gone, ?text⟩
  case unmatched =>
    exact ⟨congrArg _ (busResponse_unmatched o other), congrArg _ (busResponse_unmatched o other)⟩
  case gone =>
    rintro f bytes busy rfl gone
    have ends (o : TransferOutcome) : completeSlot i o s = ended i f o s := completeSlot_withdrawn o busy gone
    have matched (o : BusOutcome) := (busResponse_matched o busy).trans (ends _)
    exact ⟨congrArg _ ((matched (.data bytes)).trans (ended_data i f bytes s)),
      congrArg _ ((matched .error).trans (ended_error i f s)), congrArg _ ((ends _).trans (ended_timeout i f s))⟩
  case text =>
    rintro f bytes c busy rfl wanted text read len between fetching
    have answered := (busResponse_matched (.data bytes) busy).trans
      (completeSlot_alertText_read busy wanted text read len between fetching)
    exact ⟨congrArg _ answered, congrArg _ answered,
      congrArg _ (completeSlot_alertText_timeout busy wanted text between fetching)⟩

end Sys2Proof.Port
end

section
/-! The queue of commands is the model's own (log entry 1), and no block of the part reaches it: every operation, from the Receive
FIFO of chapter 9 up to the frame start of chapter 1, leaves it as it stood. So each command's answer has the queue of the state
that it was run in. -/

namespace Sys2Proof.Queue

open Sys2Proof Sys2Proof.Machine

/-- Operations folded over a list leave the queue alone when each does. -/
theorem foldl_pending {α : Type} {f : State → α → State} (each : ∀ s x, (f s x).pending = s.pending) (l : List α)
    (s : State) : (l.foldl f s).pending = s.pending :=
  List.foldlRecOn l f (motive := fun t => t.pending = s.pending) rfl fun t kept x _ => (each t x).trans kept

@[simp] theorem updateWhenPacked_pending (sid : U16) (f : Service → Service) (s : State) :
    (updateWhenPacked sid f s).pending = s.pending := by
  unfold updateWhenPacked
  split <;> simp

/-! ### The line and the parser (chapter 9) -/

@[simp] theorem storeEntry_pending (e : FifoEntry) (s : State) : (storeEntry e s).pending = s.pending := by
  rcases storeEntry_cases e s with ⟨-, h⟩ | ⟨-, h⟩ <;> simp [h]

@[simp] theorem completeIdleMarker_pending (s : State) : (completeIdleMarker s).pending = s.pending := by
  simp [completeIdleMarker]

@[simp] theorem countIdle_pending (n : Nat) (s : State) : (countIdle n s).pending = s.pending := by
  rcases countIdle_cases n s with ⟨-, h⟩ | ⟨-, -, h⟩ | ⟨-, -, h⟩ <;> simp [h]

theorem fallingEdge_pending (hunted : Nat) (s : State) : (fallingEdge hunted s).pending = s.pending := by
  unfold fallingEdge
  split <;> simp

theorem idleMarker_pending (s : State) : (idleMarker s).pending = s.pending := by
  unfold idleMarker
  split <;> simp

theorem startBit_pending (b : BitSamples) (s : State) : (startBit b s).pending = s.pending := by
  unfold startBit
  split
  · split <;> simp
  · rfl

theorem byteComplete_pending (b : ByteSamples) (s : State) : (byteComplete b s).pending = s.pending := by
  unfold byteComplete
  split <;> simp

theorem breakWaitEnd_pending (s : State) : (breakWaitEnd s).pending = s.pending := by
  unfold breakWaitEnd
  split <;> rfl

@[simp] theorem applyRate_pending (code : Byte) (s : State) : (applyRate code s).pending = s.pending := by
  unfold applyRate
  split
  · split <;> rfl
  · rfl

@[simp] theorem completeTelegram_pending (crc : List Byte) (s : State) : (completeTelegram crc s).pending = s.pending := by
  simp only [completeTelegram]
  split
  · simp
  · split <;> simp

@[simp] theorem lengthByte_pending (b : Byte) (s : State) : (lengthByte b s).pending = s.pending := by
  unfold lengthByte
  split <;> simp

@[simp] theorem checkByte_pending (b : Byte) (s : State) : (checkByte b s).pending = s.pending := by
  simp only [checkByte]
  split <;> simp

@[simp] theorem cleanByte_pending (b : Byte) (s : State) : (cleanByte b s).pending = s.pending := by
  unfold cleanByte
  split <;> simp [bodyByte]

@[simp] theorem parseEntry_pending (e : FifoEntry) (s : State) : (parseEntry e s).pending = s.pending := by
  unfold parseEntry
  split
  · unfold breakEntry
    split <;> simp
  · split
    · rfl
    · split <;> simp

theorem takeEntry_pending (s : State) : (takeEntry s).pending = s.pending := by
  unfold takeEntry
  split
  · split <;> simp
  · rfl

/-! ### Alerts (chapter 10) -/

@[simp] theorem takeTelegram_pending (s : State) : (takeTelegram s).pending = s.pending := by
  simp only [takeTelegram]
  split <;> simp

@[simp] theorem takeRequests_pending (s : State) : (takeRequests s).pending = s.pending := by
  rw [takeRequests, ← takeTelegram_pending s]
  unfold takeCell
  split
  · split <;> simp
  · rfl

@[simp] theorem alertCell_pending (v : RootValues) (s : State) : (alertCell v s).pending = s.pending := by
  simp only [alertCell]
  repeat' split
  all_goals simp

@[simp] theorem fixPhase_pending (s : State) : (fixPhase s).pending = s.pending := by simp [fixPhase]

/-! ### Standby loads (10.5) -/

@[simp] theorem finishLoad_pending (l : StandbyLoad) (s : State) : (finishLoad l s).pending = s.pending := by
  simp only [finishLoad]
  split <;> simp

@[simp] theorem requestStandby_pending (l : StandbyLoad) (s : State) : (requestStandby l s).pending = s.pending := by
  simp [requestStandby]

@[simp] theorem beginLoad_pending (q : StandbyRequest) (s : State) : (beginLoad q s).pending = s.pending := by
  simp only [beginLoad]
  split <;> simp

@[simp] theorem beginPending_pending (s : State) : (beginPending s).pending = s.pending := by
  unfold beginPending
  split
  · split <;> simp
  · rfl

@[simp] theorem standbyRequest_pending (v : RootValues) (s : State) : (standbyRequest v s).pending = s.pending := by
  simp only [standbyRequest]
  repeat' split
  all_goals simp

theorem standbyDone_pending (o : TransferOutcome) (s : State) : (standbyDone o s).pending = s.pending := by
  simp only [standbyDone]
  split
  · rfl
  · split
    · split <;> simp
    all_goals simp

/-! ### Labels (chapter 6) -/

@[simp] theorem pollLabel_pending (index : Nat) (e : PlanEntry) (s : State) : (pollLabel index e s).pending = s.pending := by
  unfold pollLabel
  split
  · split <;> simp
  · rfl

theorem labelPollDone_pending (sid : U16) (o : TransferOutcome) (s : State) :
    (labelPollDone sid o s).pending = s.pending := by
  unfold labelPollDone
  split
  · split <;> simp
  · simp

theorem labelFetchDone_pending (sid : U16) (o : TransferOutcome) (s : State) :
    (labelFetchDone sid o s).pending = s.pending := by
  cases o <;> rfl

/-! ### Pictures (chapter 7) -/

@[simp] theorem pictureRequests_pending (s : State) : (pictureRequests s).pending = s.pending := by
  refine foldl_pending (fun s sid => ?_) _ s
  unfold pictureRequest
  repeat' split
  all_goals simp [beginSelection, beginRefill]

theorem pictureHeaderDone_pending (sid : U16) (o : TransferOutcome) (s : State) :
    (pictureHeaderDone sid o s).pending = s.pending := by
  simp only [pictureHeaderDone]
  split
  · split <;> simp [readEntry]
  · simp

theorem pictureEntryDone_pending (sid : U16) (o : TransferOutcome) (s : State) :
    (pictureEntryDone sid o s).pending = s.pending := by
  simp only [pictureEntryDone]
  split
  · split
    · simp [beginRefill]
    · split <;> simp [readEntry]
  · simp

theorem refillRecordDone_pending (sid : U16) (o : TransferOutcome) (s : State) :
    (refillRecordDone sid o s).pending = s.pending := by
  unfold refillRecordDone
  split
  · split
    · simp
    · split <;> simp
  · simp

theorem refillDataDone_pending (sid : U16) (o : TransferOutcome) (s : State) :
    (refillDataDone sid o s).pending = s.pending := by
  cases o <;> rfl

/-! ### Slot reads (chapter 4) -/

@[simp] theorem setSlotRead_pending (key : SlotKey) (r : SlotRead) (s : State) :
    (setSlotRead key r s).pending = s.pending := by
  cases key <;> rfl

@[simp] theorem slotFault_pending (key : SlotKey) (s : State) : (slotFault key s).pending = s.pending := by
  simp [slotFault]

@[simp] theorem requestConfirm_pending (key : SlotKey) (p : SlotPlace) (r : SlotRead) (s : State) :
    (requestConfirm key p r s).pending = s.pending := by
  simp [requestConfirm]

@[simp] theorem requestBurst_pending (key : SlotKey) (p : SlotPlace) (len : Nat) (r : SlotRead) (s : State) :
    (requestBurst key p len r s).pending = s.pending := by
  simp [requestBurst]

@[simp] theorem pollSlot_pending (key : SlotKey) (s : State) : (pollSlot key s).pending = s.pending := by
  unfold pollSlot
  split
  · split <;> simp
  · rfl

@[simp] theorem pollSlots_pending (first : Bool) (s : State) : (pollSlots first s).pending = s.pending :=
  (pollSlot_pending .alert _).trans (foldl_pending (fun s sid => pollSlot_pending (.service sid) s) _ s)

@[simp] theorem beginSlotReads_pending (s : State) : (beginSlotReads s).pending = s.pending := by
  unfold beginSlotReads
  split <;> simp

theorem slotHeaderDone_pending (key : SlotKey) (o : TransferOutcome) (s : State) :
    (slotHeaderDone key o s).pending = s.pending := by
  simp only [slotHeaderDone]
  repeat' split
  all_goals simp

theorem payloadBurstDone_pending (key : SlotKey) (o : TransferOutcome) (s : State) :
    (payloadBurstDone key o s).pending = s.pending := by
  simp only [payloadBurstDone]
  split
  · split
    · split <;> simp
    all_goals simp
  · rfl

theorem confirmDone_pending (key : SlotKey) (o : TransferOutcome) (s : State) :
    (confirmDone key o s).pending = s.pending := by
  unfold confirmDone
  split
  · split
    · split <;> simp
    all_goals simp
  · rfl

@[simp] theorem selectAlertAudio_pending (s : State) : (selectAlertAudio s).pending = s.pending := by
  unfold selectAlertAudio
  split
  · rfl
  · rfl
  · split <;> rfl

/-! ### Plans (chapter 3) -/

@[simp] theorem beginPlanLoad_pending (toActive : Bool) (addr : Addr) (s : State) :
    (beginPlanLoad toActive addr s).pending = s.pending := by
  simp [beginPlanLoad]

@[simp] theorem requestEntries_pending (l : PlanLoad) (h : PlanHeader) (s : State) :
    (requestEntries l h s).pending = s.pending := by
  simp [requestEntries]

@[simp] theorem planSuperseded_pending (s : State) : (planSuperseded s).pending = s.pending := by simp [planSuperseded]

@[simp] theorem planRequestIdle_pending (addr : Addr) (s : State) : (planRequestIdle addr s).pending = s.pending := by
  simp only [planRequestIdle]
  split
  · split <;> simp
  · split <;> simp

@[simp] theorem planRequest_pending (addr : Addr) (s : State) : (planRequest addr s).pending = s.pending := by
  unfold planRequest
  split
  · simp
  · simp only [planRequestLoading]
    split <;> simp [withdrawPlanLoad]
  · simp only [planRequestCountdown]
    split
    · rfl
    · split <;> simp
  · simp [planRequestCancelling]

@[simp] theorem switchPlan_pending (s : State) : (switchPlan s).pending = s.pending := by
  simp only [switchPlan]
  split <;> simp [carryOver]

@[simp] theorem cancelCountdown_pending (s : State) : (cancelCountdown s).pending = s.pending := by
  simp only [cancelCountdown]
  split <;> simp [fixUnchanged]

@[simp] theorem fixPlan_pending (s : State) : (fixPlan s).pending = s.pending := by
  unfold fixPlan
  split
  · split <;> rfl
  · rfl
  · split <;> simp
  · simp

/-! ### Write-backs (2.4) -/

@[simp] theorem startWriteback_pending (snap : Snapshot) (s : State) : (startWriteback snap s).pending = s.pending := by
  simp [startWriteback, requestStatus]

@[simp] theorem requestWriteback_pending (snap : Snapshot) (s : State) :
    (requestWriteback snap s).pending = s.pending := by
  unfold requestWriteback
  split
  · rfl
  · split <;> simp

@[simp] theorem endWriteback_pending (s : State) : (endWriteback s).pending = s.pending := by
  simp only [endWriteback]
  split <;> simp

theorem statusTransferDone_pending (o : TransferOutcome) (s : State) : (statusTransferDone o s).pending = s.pending := by
  unfold statusTransferDone
  split
  · split <;> simp [requestStatus]
  · simp

@[simp] theorem requestFrameStatus_pending (s : State) : (requestFrameStatus s).pending = s.pending := by
  unfold requestFrameStatus
  split <;> simp

@[simp] theorem closingWriteback_pending (addr : Addr) (s : State) : (closingWriteback addr s).pending = s.pending := by
  simp [closingWriteback]

/-! ### Starting, stopping and the mode requests (2.1) -/

@[simp] theorem enterStopped_pending (s : State) : (enterStopped s).pending = s.pending := rfl

@[simp] theorem carryOutStop_pending (s : State) : (carryOutStop s).pending = s.pending := by simp [carryOutStop]

@[simp] theorem endStart_pending (r : StartResult) (s : State) : (endStart r s).pending = s.pending := by
  simp only [endStart]
  split <;> simp

theorem rootReadDone_pending (o : TransferOutcome) (s : State) : (rootReadDone o s).pending = s.pending := by
  simp only [rootReadDone]
  split
  · split
    · simp
    · split <;> simp
  all_goals simp

@[simp] theorem planLoadOutcome_pending (l : PlanLoad) (outcome : Except PlanResult Plan) (s : State) :
    (planLoadOutcome l outcome s).pending = s.pending := by
  unfold planLoadOutcome
  split
  · cases outcome <;> simp [activeOutcome]
  · cases outcome <;> simp [stagedOutcome]

@[simp] theorem continueLoad_pending (l : PlanLoad) (h : PlanHeader) (s : State) :
    (continueLoad l h s).pending = s.pending := by
  unfold continueLoad
  split
  · simp
  · split <;> simp

theorem planTransferDone_pending (o : TransferOutcome) (s : State) : (planTransferDone o s).pending = s.pending := by
  unfold planTransferDone
  split
  · rfl
  · split
    · split <;> simp
    all_goals simp

theorem requestRun_pending (s : State) : (requestRun s).pending = s.pending := by
  unfold requestRun
  split
  · split <;> simp [enterStarting, refuseStart]
  · rfl
  all_goals split <;> simp

theorem requestHold_pending (s : State) : (requestHold s).pending = s.pending := by
  unfold requestHold
  split
  · rfl
  · rfl
  all_goals split <;> simp

theorem requestStop_pending (s : State) : (requestStop s).pending = s.pending := by
  have running : (requestStop.stopRunning s).pending = s.pending := by
    unfold requestStop.stopRunning
    split
    · rfl
    · split <;> simp
  unfold requestStop
  split
  · rfl
  · exact endStart_pending _ s
  all_goals exact running

@[simp] theorem fixMode_pending (s : State) : (fixMode s).pending = s.pending := by
  unfold fixMode
  split
  · split <;> simp
  · split
    · simp
    · split <;> simp
  all_goals rfl

/-! ### The cut-off (R15) -/

theorem workService_pending (w : Work) (x : PlanEntry × Nat) : (workService w x).state.pending = w.state.pending := by
  simp only [workService, withdrawEndedRefill]
  split
  · split <;> simp
  · rfl

@[simp] theorem workFrame_pending (s : State) : (workFrame s).state.pending = s.pending := by
  unfold workFrame
  split
  · refine List.foldlRecOn _ workService (motive := fun w => w.state.pending = s.pending) ?_
      fun w kept x _ => (workService_pending w x).trans kept
    simp only
    split <;> simp
  · rfl

@[simp] theorem cutOff_pending (s : State) : (cutOff s).pending = s.pending := by
  simp [cutOff, assembleSnapshot, fixNext, completeFrame]

/-! ### Frame starts (R10 to R18) -/

@[simp] theorem pulseMark_pending (s : State) : (pulseMark s).pending = s.pending := by
  unfold pulseMark
  split <;> rfl

@[simp] theorem applySource_pending (s : State) : (applySource s).pending = s.pending := by
  simp only [applySource]
  split <;> simp

@[simp] theorem beginAssembly_pending (s : State) : (beginAssembly s).pending = s.pending := by
  simp only [beginAssembly, beginSlotReads_pending, pictureRequests_pending, rootPoll]
  split <;> simp [beginTimeline]

@[simp] theorem handOver_pending (s : State) : (handOver s).pending = s.pending := by
  unfold handOver
  split
  · rfl
  · split <;> simp [openingStart]
  all_goals split <;> simp [stoppingStart, emittingStart, beginEmission]

@[simp] theorem takeStart_pending (t : Nat) (timer : FrameTimer → FrameTimer) (changed : Bool) (s : State) :
    (takeStart t timer changed s).pending = s.pending := by
  simp only [takeStart, ensureCutOff]
  split <;> simp

theorem frameInEdge_pending (t : Nat) (s : State) : (frameInEdge t s).pending = s.pending := by
  unfold frameInEdge
  split
  · split <;> simp
  · split
    · split <;> simp
    · rfl

theorem internalExpiry_pending (s : State) : (internalExpiry s).pending = s.pending := by
  unfold internalExpiry
  split <;> simp

theorem lockedDeadline_pending (s : State) : (lockedDeadline s).pending = s.pending := by
  unfold lockedDeadline
  split <;> simp

theorem holdoverExpiry_pending (s : State) : (holdoverExpiry s).pending = s.pending := by
  unfold holdoverExpiry
  split <;> simp

theorem pollOffset_pending (s : State) : (pollOffset s).pending = s.pending := by
  unfold pollOffset
  split <;> simp

theorem timedCutOff_pending (s : State) : (timedCutOff s).pending = s.pending := by
  unfold timedCutOff
  split <;> simp

theorem selectSource_pending (source : FrameSource) (s : State) : (selectSource source s).pending = s.pending := by
  simp only [selectSource]
  split <;> rfl

theorem lastByteSent_pending (s : State) : (lastByteSent s).pending = s.pending := by
  unfold lastByteSent
  split
  · split <;> simp
  · rfl

/-! ### The Memory Port (chapter 11) -/

theorem rootPollDone_pending (o : TransferOutcome) (s : State) : (rootPollDone o s).pending = s.pending := by
  simp only [rootPollDone, acceptPoll, handRequests]
  repeat' split
  all_goals simp

theorem ownerTakes_pending (p : Purpose) (o : TransferOutcome) (s : State) : (ownerTakes p o s).pending = s.pending := by
  cases p with
  | rootRead => exact rootReadDone_pending o s
  | rootPoll => exact rootPollDone_pending o s
  | planLoad => exact planTransferDone_pending o s
  | status => exact statusTransferDone_pending o s
  | slotHeader key => exact slotHeaderDone_pending key o s
  | slotPayload key => exact payloadBurstDone_pending key o s
  | slotConfirm key => exact confirmDone_pending key o s
  | labelPoll sid => exact labelPollDone_pending sid o s
  | labelFetch sid => exact labelFetchDone_pending sid o s
  | listHeader sid => exact pictureHeaderDone_pending sid o s
  | listEntry sid => exact pictureEntryDone_pending sid o s
  | refillRecord sid => exact refillRecordDone_pending sid o s
  | refillData sid => exact refillDataDone_pending sid o s
  | alertText => rfl
  | standby => exact standbyDone_pending o s

theorem completeSlot_pending (i : Fin 8) (o : TransferOutcome) (s : State) : (completeSlot i o s).pending = s.pending := by
  cases busy : s.mp.slots[i] with
  | none => rw [Port.completeSlot_free o busy]
  | some f =>
    have ends : (Port.ended i f o s).pending = s.pending := by cases o <;> rfl
    cases gone : f.withdrawn with
    | true => rw [Port.completeSlot_withdrawn o busy gone, ends]
    | false =>
      rw [Port.completeSlot_wanted o busy gone, ← ends]
      exact ownerTakes_pending _ _ _

theorem completePurpose_pending (p : Purpose) (o : TransferOutcome) (s : State) :
    (completePurpose p o s).pending = s.pending := by
  unfold completePurpose
  split
  · exact completeSlot_pending _ o s
  · rfl

theorem busResponse_pending (i : Fin 8) (grant : BitVec 8) (o : BusOutcome) (s : State) :
    (busResponse i grant o s).pending = s.pending := by
  unfold busResponse
  split
  · split
    · exact completeSlot_pending i _ s
    · rfl
  · rfl

theorem promoteBulk_pending (s : State) : (promoteBulk s).pending = s.pending := by
  unfold promoteBulk
  split
  · split <;> rfl
  · rfl

theorem endQuiet_pending (s : State) : (endQuiet s).pending = s.pending := by
  unfold endQuiet
  split <;> simp

/-! ### Every command -/

/-- Settles O2. Each command answers with what its operation makes of the state, and no operation reaches the queue. -/
theorem commandsAnswerAndLeaveTheQueue : Obligations.CommandsAnswerAndLeaveTheQueue := by
  intro c s
  cases c with
  | powerOnReset => exact ⟨_, rfl, rfl⟩
  | softReset word => exact ⟨_, rfl, rfl⟩
  | modeRequestRun => exact ⟨_, rfl, requestRun_pending s⟩
  | modeRequestHold => exact ⟨_, rfl, requestHold_pending s⟩
  | modeRequestStop => exact ⟨_, rfl, requestStop_pending s⟩
  | frameSourceSelect source => exact ⟨_, rfl, selectSource_pending source s⟩
  | frameMarkEnable on => exact ⟨_, rfl, rfl⟩
  | rootAddressWrite reg value =>
    refine ⟨_, rfl, ?_⟩
    split <;> rfl
  | causeMaskWrite value => exact ⟨_, rfl, rfl⟩
  | causeRead => exact ⟨_, rfl, rfl⟩
  | registerWrite reg value => exact ⟨_, rfl, rfl⟩
  | frameInEdge t => exact ⟨_, rfl, frameInEdge_pending t s⟩
  | internalPeriodExpiry => exact ⟨_, rfl, internalExpiry_pending s⟩
  | lockedDeadline => exact ⟨_, rfl, lockedDeadline_pending s⟩
  | holdoverPeriodExpiry => exact ⟨_, rfl, holdoverExpiry_pending s⟩
  | txReadyChange level sent => exact ⟨_, rfl, rfl⟩
  | lastByteSent => exact ⟨_, rfl, lastByteSent_pending s⟩
  | pollOffset => exact ⟨_, rfl, pollOffset_pending s⟩
  | cutOff => exact ⟨_, rfl, timedCutOff_pending s⟩
  | labelStepTimerExpiry sid => exact ⟨_, rfl, updateWhenPacked_pending sid _ s⟩
  | alertStepTimerExpiry sid => exact ⟨_, rfl, updateWhenPacked_pending sid _ s⟩
  | dwellTimerExpiry sid => exact ⟨_, rfl, updateWhenPacked_pending sid _ s⟩
  | rootReadDone o => exact ⟨_, rfl, completePurpose_pending .rootRead o s⟩
  | rootPollDone o => exact ⟨_, rfl, completePurpose_pending .rootPoll o s⟩
  | planLoadTransferDone o => exact ⟨_, rfl, completePurpose_pending .planLoad o s⟩
  | statusTransferDone o => exact ⟨_, rfl, completePurpose_pending .status o s⟩
  | slotHeaderReadDone key o => exact ⟨_, rfl, completePurpose_pending (.slotHeader key) o s⟩
  | payloadBurstDone key o => exact ⟨_, rfl, completePurpose_pending (.slotPayload key) o s⟩
  | confirmReadDone key o => exact ⟨_, rfl, completePurpose_pending (.slotConfirm key) o s⟩
  | labelPollDone sid o => exact ⟨_, rfl, completePurpose_pending (.labelPoll sid) o s⟩
  | labelFetchDone sid o => exact ⟨_, rfl, completePurpose_pending (.labelFetch sid) o s⟩
  | pictureHeaderReadDone sid o => exact ⟨_, rfl, completePurpose_pending (.listHeader sid) o s⟩
  | pictureEntryReadDone sid o => exact ⟨_, rfl, completePurpose_pending (.listEntry sid) o s⟩
  | refillRecordDone sid o => exact ⟨_, rfl, completePurpose_pending (.refillRecord sid) o s⟩
  | refillDataDone sid o => exact ⟨_, rfl, completePurpose_pending (.refillData sid) o s⟩
  | alertTextReadDone o => exact ⟨_, rfl, completePurpose_pending .alertText o s⟩
  | standbyTransferDone o => exact ⟨_, rfl, completePurpose_pending .standby o s⟩
  | lineByteComplete samples => exact ⟨_, rfl, byteComplete_pending samples s⟩
  | breakWaitEnd => exact ⟨_, rfl, breakWaitEnd_pending s⟩
  | idleMarker => exact ⟨_, rfl, idleMarker_pending s⟩
  | parserTakeEntry => exact ⟨_, rfl, takeEntry_pending s⟩
  | transferGrant => exact ⟨_, rfl, grantOne_pending s⟩
  | bulkPromotion => exact ⟨_, rfl, promoteBulk_pending s⟩
  | transferResponse slot grant o => exact ⟨_, rfl, busResponse_pending slot grant o s⟩
  | staleResponse slot grant o => exact ⟨_, rfl, busResponse_pending slot grant o s⟩
  | transferTimeout slot => exact ⟨_, rfl, completeSlot_pending slot .timeout s⟩
  | quietTimeEnd => exact ⟨_, rfl, endQuiet_pending s⟩
  | lineFallingEdge hunted => exact ⟨_, rfl, fallingEdge_pending hunted s⟩
  | startBitSample samples => exact ⟨_, rfl, startBit_pending samples s⟩

end Sys2Proof.Queue
end

section
/-! One step, by what the queue of commands holds (log entry 1): it is empty and the part idles, or its front command is run. -/

namespace Sys2Proof.Steps

open Sys2Proof Sys2Proof.Machine

theorem step_of_pending_nil {s : State} (empty : s.pending = []) : step s = .next s := by
  simp only [step, empty]

/-- The front command runs on a state that differs in its queue alone, which holds the rest. -/
theorem step_of_pending_cons {c : Instr} {rest : List Instr} {s : State} (front : s.pending = c :: rest) :
    step s = exec c (s.withPending rest) := by
  simp only [step, front]

/-- Settles O1, by the two shapes of the queue: `withPending` is the update of the queue that the statement writes out. -/
theorem stepRunsFrontCommand : Obligations.StepRunsFrontCommand :=
  ⟨fun _ _ _ front => step_of_pending_cons front, fun _ empty => step_of_pending_nil empty⟩

end Sys2Proof.Steps
end
